-- ==== Sys2Proof/Word.lean ====
section
/-! DEFINITION. The two word types of the machine (00_scope.md R4: data width 8, address width 16). -/

namespace Sys2Proof

/-- 8 bits: registers, flags, memory bytes, every bus transfer (R4). -/
abbrev Byte := BitVec 8

/-- 16 bits: addresses, register pairs, SP, PC (R4). -/
abbrev Word := BitVec 16

end Sys2Proof
end

