-- ==== Sys2Proof/Machine/Bits.lean ====
section
/-! DEFINITION. Halves of a word, joining them, extension (the notation of 00_scope.md section 5). -/

namespace Sys2Proof

/-- `hi(w) = w[15:8]`. -/
def hi (w : Word) : Byte := w.extractLsb' 8 8

/-- `lo(w) = w[7:0]`. -/
def lo (w : Word) : Byte := w.extractLsb' 0 8

/-- `h:l`, the first in the high bits (R11, R75). -/
def word (h l : Byte) : Word := h ++ l

/-- `sext_16(b)`. -/
def sext16 (b : Byte) : Word := b.signExtend 16

/-- `zext_16(b)`. -/
def zext16 (b : Byte) : Word := b.setWidth 16

end Sys2Proof
end

