-- ==== Sys2Proof/Machine/Forms.lean ====
section
/-! DEFINITION. The operand fields of the encoding (30_encoding.md R72, R73, R74) and `Form`: one constructor for each
kind of instruction that the rules R101..R256 describe, with its operand fields as arguments. `Instr.form` says which
kind, with which operands, each row of the opcode table is. -/

namespace Sys2Proof

/-- The 8-bit registers a 3-bit `r` field can select (R72); value 6 is not a register. -/
inductive RField where
  | B | C | D | E | H | L | A
  deriving DecidableEq, Repr

/-- The register field's number (R72). -/
def RField.code : RField → Nat
  | .B => 0 | .C => 1 | .D => 2 | .E => 3 | .H => 4 | .L => 5 | .A => 7

/-- The register a field value selects; `none` is `[HL]` (R72). -/
def RField.ofCode : Nat → Option RField
  | 0 => some .B | 1 => some .C | 2 => some .D | 3 => some .E
  | 4 => some .H | 5 => some .L | 7 => some .A | _ => none

/-- `rr` in `LD rr,d16`, `INC rr`, `DEC rr`, `ADD HL,rr` (R73, first column). -/
inductive PairField where
  | BC | DE | HL | SP
  deriving DecidableEq, Repr

def PairField.code : PairField → Nat
  | .BC => 0 | .DE => 1 | .HL => 2 | .SP => 3

/-- `rr` in `PUSH rr`, `POP rr` (R73, second column). -/
inductive StackField where
  | BC | DE | HL | AF
  deriving DecidableEq, Repr

def StackField.code : StackField → Nat
  | .BC => 0 | .DE => 1 | .HL => 2 | .AF => 3

/-- The address operand of `LD [x],A` and `LD A,[x]` (R73, third column). -/
inductive AtField where
  | BC | DE | HLinc | HLdec
  deriving DecidableEq, Repr

def AtField.code : AtField → Nat
  | .BC => 0 | .DE => 1 | .HLinc => 2 | .HLdec => 3

/-- The four conditions (R74, R220). -/
inductive Cond where
  | NZ | Z | NC | C
  deriving DecidableEq, Repr

def Cond.code : Cond → Nat
  | .NZ => 0 | .Z => 1 | .NC => 2 | .C => 3

/-- The ALU operation field `ooo` (R78). -/
inductive AluOp where
  | add | adc | sub | sbc | and | xor | or | cp
  deriving DecidableEq, Repr

def AluOp.code : AluOp → Nat
  | .add => 0 | .adc => 1 | .sub => 2 | .sbc => 3 | .and => 4 | .xor => 5 | .or => 6 | .cp => 7

/-- The rotate and shift functions, field `y` of the CB table with `x = 0` (R79). -/
inductive RotOp where
  | rlc | rrc | rl | rr | sla | sra | swap | srl
  deriving DecidableEq, Repr

def RotOp.code : RotOp → Nat
  | .rlc => 0 | .rrc => 1 | .rl => 2 | .rr => 3 | .sla => 4 | .sra => 5 | .swap => 6 | .srl => 7

/-- The function a `y` field names (R79). -/
def RotOp.ofCode : Nat → RotOp
  | 0 => .rlc | 1 => .rrc | 2 => .rl | 3 => .rr | 4 => .sla | 5 => .sra | 6 => .swap | _ => .srl

/-- One constructor for each kind of instruction of files 40 to 46. -/
inductive Form where
  /-- R101 `LD r,r'` -/
  | ld_r_r (d s : RField)
  /-- R102 `LD r,d8` -/
  | ld_r_d8 (d : RField) (n : Byte)
  /-- R103 `LD r,[HL]` -/
  | ld_r_atHL (d : RField)
  /-- R104 `LD [HL],r` -/
  | ld_atHL_r (s : RField)
  /-- R105 `LD [HL],d8` -/
  | ld_atHL_d8 (n : Byte)
  /-- R106, R107, R117, R119 `LD A,[BC]`, `LD A,[DE]`, `LD A,[HL+]`, `LD A,[HL-]` -/
  | ld_A_at (x : AtField)
  /-- R108, R109, R116, R118 `LD [BC],A`, `LD [DE],A`, `LD [HL+],A`, `LD [HL-],A` -/
  | ld_at_A (x : AtField)
  /-- R110 `LD A,[a16]` -/
  | ld_A_atA16 (aa : Word)
  /-- R111 `LD [a16],A` -/
  | ld_atA16_A (aa : Word)
  /-- R112 `LDH A,[a8]` -/
  | ldh_A_atA8 (a : Byte)
  /-- R113 `LDH [a8],A` -/
  | ldh_atA8_A (a : Byte)
  /-- R114 `LDH A,[C]` -/
  | ldh_A_atC
  /-- R115 `LDH [C],A` -/
  | ldh_atC_A
  /-- R130 `LD rr,d16` -/
  | ld_rr_d16 (rr : PairField) (nn : Word)
  /-- R131 `LD [a16],SP` -/
  | ld_atA16_SP (aa : Word)
  /-- R132 `LD SP,HL` -/
  | ld_SP_HL
  /-- R133 `LD HL,SP+e8` -/
  | ld_HL_SPe8 (e : Byte)
  /-- R134 `PUSH rr` -/
  | push (rr : StackField)
  /-- R135 `POP rr`, R136 `POP AF` -/
  | pop (rr : StackField)
  /-- R141, R144, R147, R150, R153, R156, R159, R162: an ALU operation on A and `r` -/
  | alu_r (op : AluOp) (r : RField)
  /-- R142, R145, R148, R151, R154, R157, R160, R163: an ALU operation on A and `[HL]` -/
  | alu_atHL (op : AluOp)
  /-- R143, R146, R149, R152, R155, R158, R161, R164: an ALU operation on A and `d8` -/
  | alu_d8 (op : AluOp) (n : Byte)
  /-- R165 `INC r` -/
  | inc_r (r : RField)
  /-- R166 `INC [HL]` -/
  | inc_atHL
  /-- R167 `DEC r` -/
  | dec_r (r : RField)
  /-- R168 `DEC [HL]` -/
  | dec_atHL
  /-- R169 `DAA` -/
  | daa
  /-- R170 `CPL` -/
  | cpl
  /-- R171 `SCF` -/
  | scf
  /-- R172 `CCF` -/
  | ccf
  /-- R180 `ADD HL,rr` -/
  | add_HL_rr (rr : PairField)
  /-- R181 `INC rr` -/
  | inc_rr (rr : PairField)
  /-- R182 `DEC rr` -/
  | dec_rr (rr : PairField)
  /-- R183 `ADD SP,e8` -/
  | add_SP_e8 (e : Byte)
  /-- R190 `RLCA` -/
  | rlca
  /-- R191 `RLA` -/
  | rla
  /-- R192 `RRCA` -/
  | rrca
  /-- R193 `RRA` -/
  | rra
  /-- R194, R196, R198, R200, R202, R204, R206, R208: a rotate or shift of `r` -/
  | rot_r (op : RotOp) (r : RField)
  /-- R195, R197, R199, R201, R203, R205, R207, R209: a rotate or shift of `[HL]` -/
  | rot_atHL (op : RotOp)
  /-- R210 `BIT b,r` -/
  | bit_b_r (b : Fin 8) (r : RField)
  /-- R211 `BIT b,[HL]` -/
  | bit_b_atHL (b : Fin 8)
  /-- R212 `RES b,r` -/
  | res_b_r (b : Fin 8) (r : RField)
  /-- R213 `RES b,[HL]` -/
  | res_b_atHL (b : Fin 8)
  /-- R214 `SET b,r` -/
  | set_b_r (b : Fin 8) (r : RField)
  /-- R215 `SET b,[HL]` -/
  | set_b_atHL (b : Fin 8)
  /-- R221 `JP a16` -/
  | jp (aa : Word)
  /-- R222 `JP cc,a16` -/
  | jp_cc (cc : Cond) (aa : Word)
  /-- R223 `JP HL` -/
  | jp_HL
  /-- R224 `JR e8` -/
  | jr (e : Byte)
  /-- R225 `JR cc,e8` -/
  | jr_cc (cc : Cond) (e : Byte)
  /-- R226 `CALL a16` -/
  | call (aa : Word)
  /-- R227 `CALL cc,a16` -/
  | call_cc (cc : Cond) (aa : Word)
  /-- R228 `RET` -/
  | ret
  /-- R229 `RET cc` -/
  | ret_cc (cc : Cond)
  /-- R230 `RETI` -/
  | reti
  /-- R231 `RST t`, `t` the field `ttt` -/
  | rst (t : Fin 8)
  /-- R250 `NOP` -/
  | nop
  /-- R251 `HALT` -/
  | halt
  /-- R252 `DI` -/
  | di
  /-- R253 `EI` -/
  | ei
  /-- R254 the CB byte in the opcode position, with `opcode2` -/
  | cbPrefix (opcode2 : Byte)
  /-- R255, R256 a base value with no table entry -/
  | noEntry (opcode : Byte)
  deriving DecidableEq, Repr

/-- Which kind of instruction each row of the opcode table is, with which operands (R78, R79, R85 `fields`). -/
def Instr.form : Instr → Form
  | .nop => .nop
  | .ld_BC_d16 nn => .ld_rr_d16 .BC nn
  | .ld_atBC_A => .ld_at_A .BC
  | .inc_BC => .inc_rr .BC
  | .inc_B => .inc_r .B
  | .dec_B => .dec_r .B
  | .ld_B_d8 n => .ld_r_d8 .B n
  | .rlca => .rlca
  | .ld_atA16_SP aa => .ld_atA16_SP aa
  | .add_HL_BC => .add_HL_rr .BC
  | .ld_A_atBC => .ld_A_at .BC
  | .dec_BC => .dec_rr .BC
  | .inc_C => .inc_r .C
  | .dec_C => .dec_r .C
  | .ld_C_d8 n => .ld_r_d8 .C n
  | .rrca => .rrca
  | .no_entry_10 => .noEntry 0x10
  | .ld_DE_d16 nn => .ld_rr_d16 .DE nn
  | .ld_atDE_A => .ld_at_A .DE
  | .inc_DE => .inc_rr .DE
  | .inc_D => .inc_r .D
  | .dec_D => .dec_r .D
  | .ld_D_d8 n => .ld_r_d8 .D n
  | .rla => .rla
  | .jr_e8 e => .jr e
  | .add_HL_DE => .add_HL_rr .DE
  | .ld_A_atDE => .ld_A_at .DE
  | .dec_DE => .dec_rr .DE
  | .inc_E => .inc_r .E
  | .dec_E => .dec_r .E
  | .ld_E_d8 n => .ld_r_d8 .E n
  | .rra => .rra
  | .jr_NZ_e8 e => .jr_cc .NZ e
  | .ld_HL_d16 nn => .ld_rr_d16 .HL nn
  | .ld_atHLinc_A => .ld_at_A .HLinc
  | .inc_HL => .inc_rr .HL
  | .inc_H => .inc_r .H
  | .dec_H => .dec_r .H
  | .ld_H_d8 n => .ld_r_d8 .H n
  | .daa => .daa
  | .jr_Z_e8 e => .jr_cc .Z e
  | .add_HL_HL => .add_HL_rr .HL
  | .ld_A_atHLinc => .ld_A_at .HLinc
  | .dec_HL => .dec_rr .HL
  | .inc_L => .inc_r .L
  | .dec_L => .dec_r .L
  | .ld_L_d8 n => .ld_r_d8 .L n
  | .cpl => .cpl
  | .jr_NC_e8 e => .jr_cc .NC e
  | .ld_SP_d16 nn => .ld_rr_d16 .SP nn
  | .ld_atHLdec_A => .ld_at_A .HLdec
  | .inc_SP => .inc_rr .SP
  | .inc_atHL => .inc_atHL
  | .dec_atHL => .dec_atHL
  | .ld_atHL_d8 n => .ld_atHL_d8 n
  | .scf => .scf
  | .jr_C_e8 e => .jr_cc .C e
  | .add_HL_SP => .add_HL_rr .SP
  | .ld_A_atHLdec => .ld_A_at .HLdec
  | .dec_SP => .dec_rr .SP
  | .inc_A => .inc_r .A
  | .dec_A => .dec_r .A
  | .ld_A_d8 n => .ld_r_d8 .A n
  | .ccf => .ccf
  | .ld_B_B => .ld_r_r .B .B
  | .ld_B_C => .ld_r_r .B .C
  | .ld_B_D => .ld_r_r .B .D
  | .ld_B_E => .ld_r_r .B .E
  | .ld_B_H => .ld_r_r .B .H
  | .ld_B_L => .ld_r_r .B .L
  | .ld_B_atHL => .ld_r_atHL .B
  | .ld_B_A => .ld_r_r .B .A
  | .ld_C_B => .ld_r_r .C .B
  | .ld_C_C => .ld_r_r .C .C
  | .ld_C_D => .ld_r_r .C .D
  | .ld_C_E => .ld_r_r .C .E
  | .ld_C_H => .ld_r_r .C .H
  | .ld_C_L => .ld_r_r .C .L
  | .ld_C_atHL => .ld_r_atHL .C
  | .ld_C_A => .ld_r_r .C .A
  | .ld_D_B => .ld_r_r .D .B
  | .ld_D_C => .ld_r_r .D .C
  | .ld_D_D => .ld_r_r .D .D
  | .ld_D_E => .ld_r_r .D .E
  | .ld_D_H => .ld_r_r .D .H
  | .ld_D_L => .ld_r_r .D .L
  | .ld_D_atHL => .ld_r_atHL .D
  | .ld_D_A => .ld_r_r .D .A
  | .ld_E_B => .ld_r_r .E .B
  | .ld_E_C => .ld_r_r .E .C
  | .ld_E_D => .ld_r_r .E .D
  | .ld_E_E => .ld_r_r .E .E
  | .ld_E_H => .ld_r_r .E .H
  | .ld_E_L => .ld_r_r .E .L
  | .ld_E_atHL => .ld_r_atHL .E
  | .ld_E_A => .ld_r_r .E .A
  | .ld_H_B => .ld_r_r .H .B
  | .ld_H_C => .ld_r_r .H .C
  | .ld_H_D => .ld_r_r .H .D
  | .ld_H_E => .ld_r_r .H .E
  | .ld_H_H => .ld_r_r .H .H
  | .ld_H_L => .ld_r_r .H .L
  | .ld_H_atHL => .ld_r_atHL .H
  | .ld_H_A => .ld_r_r .H .A
  | .ld_L_B => .ld_r_r .L .B
  | .ld_L_C => .ld_r_r .L .C
  | .ld_L_D => .ld_r_r .L .D
  | .ld_L_E => .ld_r_r .L .E
  | .ld_L_H => .ld_r_r .L .H
  | .ld_L_L => .ld_r_r .L .L
  | .ld_L_atHL => .ld_r_atHL .L
  | .ld_L_A => .ld_r_r .L .A
  | .ld_atHL_B => .ld_atHL_r .B
  | .ld_atHL_C => .ld_atHL_r .C
  | .ld_atHL_D => .ld_atHL_r .D
  | .ld_atHL_E => .ld_atHL_r .E
  | .ld_atHL_H => .ld_atHL_r .H
  | .ld_atHL_L => .ld_atHL_r .L
  | .halt => .halt
  | .ld_atHL_A => .ld_atHL_r .A
  | .ld_A_B => .ld_r_r .A .B
  | .ld_A_C => .ld_r_r .A .C
  | .ld_A_D => .ld_r_r .A .D
  | .ld_A_E => .ld_r_r .A .E
  | .ld_A_H => .ld_r_r .A .H
  | .ld_A_L => .ld_r_r .A .L
  | .ld_A_atHL => .ld_r_atHL .A
  | .ld_A_A => .ld_r_r .A .A
  | .add_A_B => .alu_r .add .B
  | .add_A_C => .alu_r .add .C
  | .add_A_D => .alu_r .add .D
  | .add_A_E => .alu_r .add .E
  | .add_A_H => .alu_r .add .H
  | .add_A_L => .alu_r .add .L
  | .add_A_atHL => .alu_atHL .add
  | .add_A_A => .alu_r .add .A
  | .adc_A_B => .alu_r .adc .B
  | .adc_A_C => .alu_r .adc .C
  | .adc_A_D => .alu_r .adc .D
  | .adc_A_E => .alu_r .adc .E
  | .adc_A_H => .alu_r .adc .H
  | .adc_A_L => .alu_r .adc .L
  | .adc_A_atHL => .alu_atHL .adc
  | .adc_A_A => .alu_r .adc .A
  | .sub_B => .alu_r .sub .B
  | .sub_C => .alu_r .sub .C
  | .sub_D => .alu_r .sub .D
  | .sub_E => .alu_r .sub .E
  | .sub_H => .alu_r .sub .H
  | .sub_L => .alu_r .sub .L
  | .sub_atHL => .alu_atHL .sub
  | .sub_A => .alu_r .sub .A
  | .sbc_A_B => .alu_r .sbc .B
  | .sbc_A_C => .alu_r .sbc .C
  | .sbc_A_D => .alu_r .sbc .D
  | .sbc_A_E => .alu_r .sbc .E
  | .sbc_A_H => .alu_r .sbc .H
  | .sbc_A_L => .alu_r .sbc .L
  | .sbc_A_atHL => .alu_atHL .sbc
  | .sbc_A_A => .alu_r .sbc .A
  | .and_B => .alu_r .and .B
  | .and_C => .alu_r .and .C
  | .and_D => .alu_r .and .D
  | .and_E => .alu_r .and .E
  | .and_H => .alu_r .and .H
  | .and_L => .alu_r .and .L
  | .and_atHL => .alu_atHL .and
  | .and_A => .alu_r .and .A
  | .xor_B => .alu_r .xor .B
  | .xor_C => .alu_r .xor .C
  | .xor_D => .alu_r .xor .D
  | .xor_E => .alu_r .xor .E
  | .xor_H => .alu_r .xor .H
  | .xor_L => .alu_r .xor .L
  | .xor_atHL => .alu_atHL .xor
  | .xor_A => .alu_r .xor .A
  | .or_B => .alu_r .or .B
  | .or_C => .alu_r .or .C
  | .or_D => .alu_r .or .D
  | .or_E => .alu_r .or .E
  | .or_H => .alu_r .or .H
  | .or_L => .alu_r .or .L
  | .or_atHL => .alu_atHL .or
  | .or_A => .alu_r .or .A
  | .cp_B => .alu_r .cp .B
  | .cp_C => .alu_r .cp .C
  | .cp_D => .alu_r .cp .D
  | .cp_E => .alu_r .cp .E
  | .cp_H => .alu_r .cp .H
  | .cp_L => .alu_r .cp .L
  | .cp_atHL => .alu_atHL .cp
  | .cp_A => .alu_r .cp .A
  | .ret_NZ => .ret_cc .NZ
  | .pop_BC => .pop .BC
  | .jp_NZ_a16 aa => .jp_cc .NZ aa
  | .jp_a16 aa => .jp aa
  | .call_NZ_a16 aa => .call_cc .NZ aa
  | .push_BC => .push .BC
  | .add_A_d8 n => .alu_d8 .add n
  | .rst_00 => .rst 0
  | .ret_Z => .ret_cc .Z
  | .ret => .ret
  | .jp_Z_a16 aa => .jp_cc .Z aa
  | .cbPrefix opcode2 => .cbPrefix opcode2
  | .call_Z_a16 aa => .call_cc .Z aa
  | .call_a16 aa => .call aa
  | .adc_A_d8 n => .alu_d8 .adc n
  | .rst_08 => .rst 1
  | .ret_NC => .ret_cc .NC
  | .pop_DE => .pop .DE
  | .jp_NC_a16 aa => .jp_cc .NC aa
  | .no_entry_D3 => .noEntry 0xD3
  | .call_NC_a16 aa => .call_cc .NC aa
  | .push_DE => .push .DE
  | .sub_d8 n => .alu_d8 .sub n
  | .rst_10 => .rst 2
  | .ret_C => .ret_cc .C
  | .reti => .reti
  | .jp_C_a16 aa => .jp_cc .C aa
  | .no_entry_DB => .noEntry 0xDB
  | .call_C_a16 aa => .call_cc .C aa
  | .no_entry_DD => .noEntry 0xDD
  | .sbc_A_d8 n => .alu_d8 .sbc n
  | .rst_18 => .rst 3
  | .ldh_atA8_A a => .ldh_atA8_A a
  | .pop_HL => .pop .HL
  | .ldh_atC_A => .ldh_atC_A
  | .no_entry_E3 => .noEntry 0xE3
  | .no_entry_E4 => .noEntry 0xE4
  | .push_HL => .push .HL
  | .and_d8 n => .alu_d8 .and n
  | .rst_20 => .rst 4
  | .add_SP_e8 e => .add_SP_e8 e
  | .jp_HL => .jp_HL
  | .ld_atA16_A aa => .ld_atA16_A aa
  | .no_entry_EB => .noEntry 0xEB
  | .no_entry_EC => .noEntry 0xEC
  | .no_entry_ED => .noEntry 0xED
  | .xor_d8 n => .alu_d8 .xor n
  | .rst_28 => .rst 5
  | .ldh_A_atA8 a => .ldh_A_atA8 a
  | .pop_AF => .pop .AF
  | .ldh_A_atC => .ldh_A_atC
  | .di => .di
  | .no_entry_F4 => .noEntry 0xF4
  | .push_AF => .push .AF
  | .or_d8 n => .alu_d8 .or n
  | .rst_30 => .rst 6
  | .ld_HL_SPe8 e => .ld_HL_SPe8 e
  | .ld_SP_HL => .ld_SP_HL
  | .ld_A_atA16 aa => .ld_A_atA16 aa
  | .ei => .ei
  | .no_entry_FC => .noEntry 0xFC
  | .no_entry_FD => .noEntry 0xFD
  | .cp_d8 n => .alu_d8 .cp n
  | .rst_38 => .rst 7
  | .rlc_B => .rot_r .rlc .B
  | .rlc_C => .rot_r .rlc .C
  | .rlc_D => .rot_r .rlc .D
  | .rlc_E => .rot_r .rlc .E
  | .rlc_H => .rot_r .rlc .H
  | .rlc_L => .rot_r .rlc .L
  | .rlc_atHL => .rot_atHL .rlc
  | .rlc_A => .rot_r .rlc .A
  | .rrc_B => .rot_r .rrc .B
  | .rrc_C => .rot_r .rrc .C
  | .rrc_D => .rot_r .rrc .D
  | .rrc_E => .rot_r .rrc .E
  | .rrc_H => .rot_r .rrc .H
  | .rrc_L => .rot_r .rrc .L
  | .rrc_atHL => .rot_atHL .rrc
  | .rrc_A => .rot_r .rrc .A
  | .rl_B => .rot_r .rl .B
  | .rl_C => .rot_r .rl .C
  | .rl_D => .rot_r .rl .D
  | .rl_E => .rot_r .rl .E
  | .rl_H => .rot_r .rl .H
  | .rl_L => .rot_r .rl .L
  | .rl_atHL => .rot_atHL .rl
  | .rl_A => .rot_r .rl .A
  | .rr_B => .rot_r .rr .B
  | .rr_C => .rot_r .rr .C
  | .rr_D => .rot_r .rr .D
  | .rr_E => .rot_r .rr .E
  | .rr_H => .rot_r .rr .H
  | .rr_L => .rot_r .rr .L
  | .rr_atHL => .rot_atHL .rr
  | .rr_A => .rot_r .rr .A
  | .sla_B => .rot_r .sla .B
  | .sla_C => .rot_r .sla .C
  | .sla_D => .rot_r .sla .D
  | .sla_E => .rot_r .sla .E
  | .sla_H => .rot_r .sla .H
  | .sla_L => .rot_r .sla .L
  | .sla_atHL => .rot_atHL .sla
  | .sla_A => .rot_r .sla .A
  | .sra_B => .rot_r .sra .B
  | .sra_C => .rot_r .sra .C
  | .sra_D => .rot_r .sra .D
  | .sra_E => .rot_r .sra .E
  | .sra_H => .rot_r .sra .H
  | .sra_L => .rot_r .sra .L
  | .sra_atHL => .rot_atHL .sra
  | .sra_A => .rot_r .sra .A
  | .swap_B => .rot_r .swap .B
  | .swap_C => .rot_r .swap .C
  | .swap_D => .rot_r .swap .D
  | .swap_E => .rot_r .swap .E
  | .swap_H => .rot_r .swap .H
  | .swap_L => .rot_r .swap .L
  | .swap_atHL => .rot_atHL .swap
  | .swap_A => .rot_r .swap .A
  | .srl_B => .rot_r .srl .B
  | .srl_C => .rot_r .srl .C
  | .srl_D => .rot_r .srl .D
  | .srl_E => .rot_r .srl .E
  | .srl_H => .rot_r .srl .H
  | .srl_L => .rot_r .srl .L
  | .srl_atHL => .rot_atHL .srl
  | .srl_A => .rot_r .srl .A
  | .bit_0_B => .bit_b_r 0 .B
  | .bit_0_C => .bit_b_r 0 .C
  | .bit_0_D => .bit_b_r 0 .D
  | .bit_0_E => .bit_b_r 0 .E
  | .bit_0_H => .bit_b_r 0 .H
  | .bit_0_L => .bit_b_r 0 .L
  | .bit_0_atHL => .bit_b_atHL 0
  | .bit_0_A => .bit_b_r 0 .A
  | .bit_1_B => .bit_b_r 1 .B
  | .bit_1_C => .bit_b_r 1 .C
  | .bit_1_D => .bit_b_r 1 .D
  | .bit_1_E => .bit_b_r 1 .E
  | .bit_1_H => .bit_b_r 1 .H
  | .bit_1_L => .bit_b_r 1 .L
  | .bit_1_atHL => .bit_b_atHL 1
  | .bit_1_A => .bit_b_r 1 .A
  | .bit_2_B => .bit_b_r 2 .B
  | .bit_2_C => .bit_b_r 2 .C
  | .bit_2_D => .bit_b_r 2 .D
  | .bit_2_E => .bit_b_r 2 .E
  | .bit_2_H => .bit_b_r 2 .H
  | .bit_2_L => .bit_b_r 2 .L
  | .bit_2_atHL => .bit_b_atHL 2
  | .bit_2_A => .bit_b_r 2 .A
  | .bit_3_B => .bit_b_r 3 .B
  | .bit_3_C => .bit_b_r 3 .C
  | .bit_3_D => .bit_b_r 3 .D
  | .bit_3_E => .bit_b_r 3 .E
  | .bit_3_H => .bit_b_r 3 .H
  | .bit_3_L => .bit_b_r 3 .L
  | .bit_3_atHL => .bit_b_atHL 3
  | .bit_3_A => .bit_b_r 3 .A
  | .bit_4_B => .bit_b_r 4 .B
  | .bit_4_C => .bit_b_r 4 .C
  | .bit_4_D => .bit_b_r 4 .D
  | .bit_4_E => .bit_b_r 4 .E
  | .bit_4_H => .bit_b_r 4 .H
  | .bit_4_L => .bit_b_r 4 .L
  | .bit_4_atHL => .bit_b_atHL 4
  | .bit_4_A => .bit_b_r 4 .A
  | .bit_5_B => .bit_b_r 5 .B
  | .bit_5_C => .bit_b_r 5 .C
  | .bit_5_D => .bit_b_r 5 .D
  | .bit_5_E => .bit_b_r 5 .E
  | .bit_5_H => .bit_b_r 5 .H
  | .bit_5_L => .bit_b_r 5 .L
  | .bit_5_atHL => .bit_b_atHL 5
  | .bit_5_A => .bit_b_r 5 .A
  | .bit_6_B => .bit_b_r 6 .B
  | .bit_6_C => .bit_b_r 6 .C
  | .bit_6_D => .bit_b_r 6 .D
  | .bit_6_E => .bit_b_r 6 .E
  | .bit_6_H => .bit_b_r 6 .H
  | .bit_6_L => .bit_b_r 6 .L
  | .bit_6_atHL => .bit_b_atHL 6
  | .bit_6_A => .bit_b_r 6 .A
  | .bit_7_B => .bit_b_r 7 .B
  | .bit_7_C => .bit_b_r 7 .C
  | .bit_7_D => .bit_b_r 7 .D
  | .bit_7_E => .bit_b_r 7 .E
  | .bit_7_H => .bit_b_r 7 .H
  | .bit_7_L => .bit_b_r 7 .L
  | .bit_7_atHL => .bit_b_atHL 7
  | .bit_7_A => .bit_b_r 7 .A
  | .res_0_B => .res_b_r 0 .B
  | .res_0_C => .res_b_r 0 .C
  | .res_0_D => .res_b_r 0 .D
  | .res_0_E => .res_b_r 0 .E
  | .res_0_H => .res_b_r 0 .H
  | .res_0_L => .res_b_r 0 .L
  | .res_0_atHL => .res_b_atHL 0
  | .res_0_A => .res_b_r 0 .A
  | .res_1_B => .res_b_r 1 .B
  | .res_1_C => .res_b_r 1 .C
  | .res_1_D => .res_b_r 1 .D
  | .res_1_E => .res_b_r 1 .E
  | .res_1_H => .res_b_r 1 .H
  | .res_1_L => .res_b_r 1 .L
  | .res_1_atHL => .res_b_atHL 1
  | .res_1_A => .res_b_r 1 .A
  | .res_2_B => .res_b_r 2 .B
  | .res_2_C => .res_b_r 2 .C
  | .res_2_D => .res_b_r 2 .D
  | .res_2_E => .res_b_r 2 .E
  | .res_2_H => .res_b_r 2 .H
  | .res_2_L => .res_b_r 2 .L
  | .res_2_atHL => .res_b_atHL 2
  | .res_2_A => .res_b_r 2 .A
  | .res_3_B => .res_b_r 3 .B
  | .res_3_C => .res_b_r 3 .C
  | .res_3_D => .res_b_r 3 .D
  | .res_3_E => .res_b_r 3 .E
  | .res_3_H => .res_b_r 3 .H
  | .res_3_L => .res_b_r 3 .L
  | .res_3_atHL => .res_b_atHL 3
  | .res_3_A => .res_b_r 3 .A
  | .res_4_B => .res_b_r 4 .B
  | .res_4_C => .res_b_r 4 .C
  | .res_4_D => .res_b_r 4 .D
  | .res_4_E => .res_b_r 4 .E
  | .res_4_H => .res_b_r 4 .H
  | .res_4_L => .res_b_r 4 .L
  | .res_4_atHL => .res_b_atHL 4
  | .res_4_A => .res_b_r 4 .A
  | .res_5_B => .res_b_r 5 .B
  | .res_5_C => .res_b_r 5 .C
  | .res_5_D => .res_b_r 5 .D
  | .res_5_E => .res_b_r 5 .E
  | .res_5_H => .res_b_r 5 .H
  | .res_5_L => .res_b_r 5 .L
  | .res_5_atHL => .res_b_atHL 5
  | .res_5_A => .res_b_r 5 .A
  | .res_6_B => .res_b_r 6 .B
  | .res_6_C => .res_b_r 6 .C
  | .res_6_D => .res_b_r 6 .D
  | .res_6_E => .res_b_r 6 .E
  | .res_6_H => .res_b_r 6 .H
  | .res_6_L => .res_b_r 6 .L
  | .res_6_atHL => .res_b_atHL 6
  | .res_6_A => .res_b_r 6 .A
  | .res_7_B => .res_b_r 7 .B
  | .res_7_C => .res_b_r 7 .C
  | .res_7_D => .res_b_r 7 .D
  | .res_7_E => .res_b_r 7 .E
  | .res_7_H => .res_b_r 7 .H
  | .res_7_L => .res_b_r 7 .L
  | .res_7_atHL => .res_b_atHL 7
  | .res_7_A => .res_b_r 7 .A
  | .set_0_B => .set_b_r 0 .B
  | .set_0_C => .set_b_r 0 .C
  | .set_0_D => .set_b_r 0 .D
  | .set_0_E => .set_b_r 0 .E
  | .set_0_H => .set_b_r 0 .H
  | .set_0_L => .set_b_r 0 .L
  | .set_0_atHL => .set_b_atHL 0
  | .set_0_A => .set_b_r 0 .A
  | .set_1_B => .set_b_r 1 .B
  | .set_1_C => .set_b_r 1 .C
  | .set_1_D => .set_b_r 1 .D
  | .set_1_E => .set_b_r 1 .E
  | .set_1_H => .set_b_r 1 .H
  | .set_1_L => .set_b_r 1 .L
  | .set_1_atHL => .set_b_atHL 1
  | .set_1_A => .set_b_r 1 .A
  | .set_2_B => .set_b_r 2 .B
  | .set_2_C => .set_b_r 2 .C
  | .set_2_D => .set_b_r 2 .D
  | .set_2_E => .set_b_r 2 .E
  | .set_2_H => .set_b_r 2 .H
  | .set_2_L => .set_b_r 2 .L
  | .set_2_atHL => .set_b_atHL 2
  | .set_2_A => .set_b_r 2 .A
  | .set_3_B => .set_b_r 3 .B
  | .set_3_C => .set_b_r 3 .C
  | .set_3_D => .set_b_r 3 .D
  | .set_3_E => .set_b_r 3 .E
  | .set_3_H => .set_b_r 3 .H
  | .set_3_L => .set_b_r 3 .L
  | .set_3_atHL => .set_b_atHL 3
  | .set_3_A => .set_b_r 3 .A
  | .set_4_B => .set_b_r 4 .B
  | .set_4_C => .set_b_r 4 .C
  | .set_4_D => .set_b_r 4 .D
  | .set_4_E => .set_b_r 4 .E
  | .set_4_H => .set_b_r 4 .H
  | .set_4_L => .set_b_r 4 .L
  | .set_4_atHL => .set_b_atHL 4
  | .set_4_A => .set_b_r 4 .A
  | .set_5_B => .set_b_r 5 .B
  | .set_5_C => .set_b_r 5 .C
  | .set_5_D => .set_b_r 5 .D
  | .set_5_E => .set_b_r 5 .E
  | .set_5_H => .set_b_r 5 .H
  | .set_5_L => .set_b_r 5 .L
  | .set_5_atHL => .set_b_atHL 5
  | .set_5_A => .set_b_r 5 .A
  | .set_6_B => .set_b_r 6 .B
  | .set_6_C => .set_b_r 6 .C
  | .set_6_D => .set_b_r 6 .D
  | .set_6_E => .set_b_r 6 .E
  | .set_6_H => .set_b_r 6 .H
  | .set_6_L => .set_b_r 6 .L
  | .set_6_atHL => .set_b_atHL 6
  | .set_6_A => .set_b_r 6 .A
  | .set_7_B => .set_b_r 7 .B
  | .set_7_C => .set_b_r 7 .C
  | .set_7_D => .set_b_r 7 .D
  | .set_7_E => .set_b_r 7 .E
  | .set_7_H => .set_b_r 7 .H
  | .set_7_L => .set_b_r 7 .L
  | .set_7_atHL => .set_b_atHL 7
  | .set_7_A => .set_b_r 7 .A

end Sys2Proof
end

