-- ==== Sys2Proof/Config.lean ====
section
/-! DEFINITION. The parameters the spec fixes (00_scope.md R4) and the one value this model chose. There is no
free value: the spec leaves no instruction result undefined. -/

namespace Sys2Proof.Config

/-- `OPEN_BUS`: what a read of an unmapped address returns (R4, R42). -/
def openBus : Byte := 0xFF

/-- `RESET_PC` (R4, R22, R290; the spec's decision D1, log 13). -/
def resetPc : Word := 0x0100

/-- Base of the page that `a8` and `[C]` operands address (R75; the spec's decision D11, log 13). -/
def highPage : Word := 0xFF00

/-- The opcode byte that selects the second table (R77). -/
def cbByte : Byte := 0xCB

/-- VRAM and WRAM after reset (R22). -/
def ramFill : Byte := 0x00

/-- DESIGN CHOICE (log 2): a ROM byte that no image lists. The spec leaves `ROM_IMAGE` open (D3). -/
def romFill : Byte := 0x00

end Sys2Proof.Config
end

