-- ==== Sys2Proof/Machine/State.lean ====
section
/-! DEFINITION. The state of the machine as plain data (10_state.md R10 to R22), why a step can stop, and reset. -/

namespace Sys2Proof.Machine

/-- ExecutorState (R16). -/
inductive ExecutorState where
  | running | halted | stopped
  deriving DecidableEq, Repr

/-- The two kinds of ignored write (R20, R262). -/
inductive WarningKind where
  | writeToReadOnly | writeUnmapped
  deriving DecidableEq, Repr

/-- One record of the warning log: the address of one ignored byte write, and why (R262). -/
structure BusWarning where
  address : Word
  kind : WarningKind
  deriving DecidableEq, Repr

/-- The three backing stores ROM, VRAM and WRAM in one list: each cell is a bus address and its byte, in rising order of
address, listing exactly the bytes that differ from what an unlisted address reads as (R19, R41; log 14). -/
abbrev Memory := List Host.Cell

/-- Everything the spec gives the machine (R10 to R21). -/
structure State where
  /-- the eight 8-bit registers (R10); `f` holds Z, N, H, C in bits 7 to 4 (R12) -/
  a : Byte
  f : Byte
  b : Byte
  c : Byte
  d : Byte
  e : Byte
  h : Byte
  l : Byte
  /-- the stack pointer (R14) -/
  sp : Word
  /-- the program counter (R15) -/
  pc : Word
  /-- ExecutorState (R16) -/
  execState : ExecutorState
  /-- the interrupt master enable (R17, R265) -/
  ime : Bool
  /-- ROM, VRAM and WRAM (R19) -/
  mem : Memory
  /-- the warning log, oldest record first (R20) -/
  log : List BusWarning
  deriving DecidableEq, Repr

/-- Why a step ends in an error. -/
inductive Fault where
  /-- `DecodeError{opcode, address}`, the one error value a step returns (R260, R261). Raised by the meanings of the
  twelve base-table values with no entry (R80, R255, R256) and by nothing else. Safe: the spec names this outcome and
  asks a model to end its run there; the state it leaves is `State.afterDecodeError` (log 4). -/
  | decodeError (opcode : Byte) (address : Word)
  deriving DecidableEq, Repr

/-- Why an instruction has no meaning here. -/
inductive Refusal where
  /-- An instruction of the opcode table without a meaning yet; raised only by an arm of `exec`. Safe: nothing can be
  proved about such a step. No arm raises it now. -/
  | notModelled (mnemonic : String)
  deriving DecidableEq, Repr

/-- The machine right after reset (R22, R290). DESIGN CHOICE: the registers A, F, B, C, D, E, H, L and SP, which the spec
leaves open as `RESET_REGS`, are zero here (log 1); memory lists nothing, so VRAM and WRAM read 0x00 as the spec says,
and ROM reads `Config.romFill` (DESIGN CHOICE, log 2). `construct` of Machine/Driver.lean is reset for every `ROM_IMAGE`
and `RESET_REGS`. -/
def State.reset : State where
  a := 0
  f := 0
  b := 0
  c := 0
  d := 0
  e := 0
  h := 0
  l := 0
  sp := 0
  pc := Config.resetPc
  execState := .running
  ime := false
  mem := []
  log := []

end Sys2Proof.Machine
end

