-- ==== Sys2Proof/Machine/Ops.lean ====
section
/-! DEFINITION. The named operations over memory and registers, and taking a DecodeError. -/

namespace Sys2Proof.Machine

/-- What a meaning answers. -/
abbrev Result := Host.Outcome State Fault Refusal

/-! ## The address map -/

/-- The owners of the address space (R41). -/
inductive Region where
  | rom | vram | wram | unmapped
  deriving DecidableEq, Repr

/-- The region table (R41). -/
def region (addr : Word) : Region :=
  if addr ≤ 0x3FFF then .rom
  else if 0x8000 ≤ addr ∧ addr ≤ 0x9FFF then .vram
  else if 0xC000 ≤ addr ∧ addr ≤ 0xCFFF then .wram
  else .unmapped

/-- What a write to a region does: `none` for a region that stores the byte, else the kind of BusWarning (R41, R43). -/
def Region.writeWarning : Region → Option WarningKind
  | .rom => some .writeToReadOnly
  | .vram => none
  | .wram => none
  | .unmapped => some .writeUnmapped

/-- What an address that no cell lists reads as: 0x00 in VRAM and WRAM (R22), `Config.romFill` in ROM (DESIGN CHOICE,
log 2), and the open-bus value elsewhere (R42). -/
def unlisted (addr : Word) : Byte :=
  match region addr with
  | .rom => Config.romFill
  | .vram => Config.ramFill
  | .wram => Config.ramFill
  | .unmapped => Config.openBus

/-! ## The backing stores -/

/-- The byte a store holds at an address. -/
def Memory.get : Memory → Word → Byte
  | [], addr => unlisted addr
  | (k, v) :: rest, addr => if k = addr.toNat then v else Memory.get rest addr

/-- The cells other than those of an address. -/
def Memory.erase (m : Memory) (addr : Word) : Memory := m.filter fun c => decide (c.1 ≠ addr.toNat)

/-- A cell put in before the first cell of a higher address. -/
def Memory.insertCell : Memory → Host.Cell → Memory
  | [], c => [c]
  | d :: rest, c => if c.1 < d.1 then c :: d :: rest else d :: Memory.insertCell rest c

/-- Place a byte, keeping the canonical form: cells in rising order, none equal to what an unlisted address reads as, and
none at an address that no store owns. -/
def Memory.put (m : Memory) (addr : Word) (v : Byte) : Memory :=
  if v = unlisted addr ∨ region addr = .unmapped then m.erase addr
  else (m.erase addr).insertCell (addr.toNat, v)

/-- The canonical form, for cells from address `start` on: strictly rising addresses of ROM, VRAM or WRAM, and no cell
that holds what its address would read as unlisted. -/
def Memory.wfFrom (start : Nat) : Memory → Bool
  | [] => true
  | (k, v) :: rest =>
    decide (start ≤ k) && decide (k < 65536) && decide (region (BitVec.ofNat 16 k) ≠ .unmapped)
      && decide (v ≠ unlisted (BitVec.ofNat 16 k)) && Memory.wfFrom (k + 1) rest

/-- The canonical form of a memory. -/
def Memory.wf (m : Memory) : Bool := Memory.wfFrom 0 m

/-! ## The bus -/

/-- `MemRead(addr, 1)` (R42). -/
def State.read (s : State) (addr : Word) : Byte :=
  match region addr with
  | .rom => s.mem.get addr
  | .vram => s.mem.get addr
  | .wram => s.mem.get addr
  | .unmapped => Config.openBus

/-- `warn(address, kind)` (R262). -/
def State.warn (s : State) (address : Word) (kind : WarningKind) : State :=
  { s with log := s.log ++ [⟨address, kind⟩] }

/-- `MemWrite(addr, 1, v)` (R43). -/
def State.write (s : State) (addr : Word) (v : Byte) : State :=
  match (region addr).writeWarning with
  | none => { s with mem := s.mem.put addr v }
  | some kind => s.warn addr kind

/-- `MemWrite(addr, 2, w)`: the low byte first, at the lower address (R45, R46; order: D18, log 13). -/
def State.write16 (s : State) (addr : Word) (w : Word) : State :=
  (s.write addr (lo w)).write (addr + 1) (hi w)

/-! ## Registers -/

/-- The closed set of 8-bit registers (R10). -/
inductive Reg8 where
  | A | F | B | C | D | E | H | L
  deriving DecidableEq, Repr

/-- The 16-bit registers: the four pairs, SP and PC (R11, R14, R15). -/
inductive Reg16 where
  | AF | BC | DE | HL | SP | PC
  deriving DecidableEq, Repr

/-- `get8(R)` (R10). -/
def State.get8 (s : State) : Reg8 → Byte
  | .A => s.a
  | .F => s.f
  | .B => s.b
  | .C => s.c
  | .D => s.d
  | .E => s.e
  | .H => s.h
  | .L => s.l

/-- `set8(R, v)`: one register, and for F the low nibble is masked (R11, R12). -/
def State.set8 (s : State) (r : Reg8) (v : Byte) : State :=
  match r with
  | .A => { s with a := v }
  | .F => { s with f := v &&& 0xF0 }
  | .B => { s with b := v }
  | .C => { s with c := v }
  | .D => { s with d := v }
  | .E => { s with e := v }
  | .H => { s with h := v }
  | .L => { s with l := v }

/-- `get16(R)` (R11, R14, R15). -/
def State.get16 (s : State) : Reg16 → Word
  | .AF => word (s.get8 .A) (s.get8 .F)
  | .BC => word (s.get8 .B) (s.get8 .C)
  | .DE => word (s.get8 .D) (s.get8 .E)
  | .HL => word (s.get8 .H) (s.get8 .L)
  | .SP => s.sp
  | .PC => s.pc

/-- `set16(R, w)` (R11, R12). -/
def State.set16 (s : State) (r : Reg16) (w : Word) : State :=
  match r with
  | .AF => (s.set8 .A (hi w)).set8 .F (lo w)
  | .BC => (s.set8 .B (hi w)).set8 .C (lo w)
  | .DE => (s.set8 .D (hi w)).set8 .E (lo w)
  | .HL => (s.set8 .H (hi w)).set8 .L (lo w)
  | .SP => { s with sp := w }
  | .PC => { s with pc := w }

/-! ## Fetch and stack -/

/-- `fetch8()`: the byte at PC, and PC past it (R15, R76). -/
def State.fetch8 (s : State) : Byte × State := (s.read s.pc, { s with pc := s.pc + 1 })

/-- `push16(w)` (R47). -/
def State.push16 (s : State) (w : Word) : State :=
  let s := { s with sp := s.sp - 1 }
  let s := s.write s.sp (hi w)
  let s := { s with sp := s.sp - 1 }
  s.write s.sp (lo w)

/-- `pop16()` (R48). -/
def State.pop16 (s : State) : Word × State :=
  let l := s.read s.sp
  let s := { s with sp := s.sp + 1 }
  let h := s.read s.sp
  let s := { s with sp := s.sp + 1 }
  (word h l, s)

/-! ## The one exception, DecodeError

There is no trap entry and no return from one: nothing is saved, no vector is taken, and the error goes to the driver
(R269, R270, R271). -/

/-- `raise DecodeError(opcode, a0)` with `a0` the address the opcode byte was fetched from; PC stands past that byte
(R76 step 2, R261). -/
def raiseDecodeError (opcode : Byte) (s : State) : Result := .fault (.decodeError opcode (s.pc - 1))

/-- The state that a step returning DecodeError leaves, from the state it began in: PC past the opcode byte, everything
else unchanged (R261; the spec's decision D7, log 13). -/
def State.afterDecodeError (s : State) : State := { s with pc := s.pc + 1 }

end Sys2Proof.Machine
end

