-- ==== Sys2Proof/Machine/Operands.lean ====
section
/-! DEFINITION. The operand forms: registers and pairs named by a field, the addresses of memory operands, and the
flag test of the conditional instructions (30_encoding.md R72 to R75, 45_control.md R220 is in Flags.lean). -/

namespace Sys2Proof

/-- The register of an `r` field (R72). -/
def RField.reg : RField → Machine.Reg8
  | .B => .B | .C => .C | .D => .D | .E => .E | .H => .H | .L => .L | .A => .A

/-- The register of an `rr` field, first column (R73). -/
def PairField.reg : PairField → Machine.Reg16
  | .BC => .BC | .DE => .DE | .HL => .HL | .SP => .SP

/-- The register of an `rr` field of PUSH and POP (R73). -/
def StackField.reg : StackField → Machine.Reg16
  | .BC => .BC | .DE => .DE | .HL => .HL | .AF => .AF

end Sys2Proof

namespace Sys2Proof.Machine

/-- `r8[i]`, `i ≠ 6` (R72). -/
def State.getR (s : State) (r : RField) : Byte := s.get8 r.reg

/-- `r8[i] <- v`, `i ≠ 6` (R72). -/
def State.setR (s : State) (r : RField) (v : Byte) : State := s.set8 r.reg v

/-- The memory operand `[HL]` (R72, value 6). -/
def State.readHL (s : State) : Byte := s.read (s.get16 .HL)

/-- A write of the memory operand `[HL]` (R72, value 6). -/
def State.writeHL (s : State) (v : Byte) : State := s.write (s.get16 .HL) v

/-- The address of a `[BC]`, `[DE]`, `[HL+]` or `[HL-]` operand (R73). -/
def State.atAddr (s : State) : AtField → Word
  | .BC => s.get16 .BC
  | .DE => s.get16 .DE
  | .HLinc => s.get16 .HL
  | .HLdec => s.get16 .HL

/-- The post-increment or post-decrement of HL that belongs to the operand (R73, R116 to R119). -/
def State.atStep (s : State) : AtField → State
  | .BC => s
  | .DE => s
  | .HLinc => s.set16 .HL (s.get16 .HL + 1)
  | .HLdec => s.set16 .HL (s.get16 .HL - 1)

/-- The address `0xFF00 | n` of the high page (R75, R112 to R115; base: D11, log 13). -/
def highPageAddr (n : Byte) : Word := Config.highPage ||| zext16 n

end Sys2Proof.Machine
end

