-- ==== Sys2Proof/Machine/Flags.lean ====
section
/-! DEFINITION. The flag bits of F, and every flag computation of the spec: 8-bit and 16-bit arithmetic, logic, DAA,
rotates and shifts, and the condition test. -/

namespace Sys2Proof.Machine

/-! ## The flag register -/

/-- The four flags (R12, R13). -/
inductive Flag where
  | Z | N | H | C
  deriving DecidableEq, Repr

/-- The bit of F that holds a flag (R12). -/
def Flag.bit : Flag → Nat
  | .Z => 7 | .N => 6 | .H => 5 | .C => 4

/-- `get_flag` (R13). -/
def State.getFlag (s : State) (x : Flag) : Bool := s.f.getLsbD x.bit

/-- F with one flag set to a value and its other seven bits as they were (R13). -/
def putFlag (f : Byte) (x : Flag) (v : Bool) : Byte :=
  if v then f ||| (1#8 <<< x.bit) else f &&& ~~~(1#8 <<< x.bit)

/-- `set_flag` (R13). -/
def State.setFlag (s : State) (x : Flag) (v : Bool) : State := { s with f := putFlag s.f x v }

/-- A flag of an update: `none` leaves it as it was (Unaffected, R81). -/
def State.updFlag (s : State) (x : Flag) : Option Bool → State
  | none => s
  | some v => s.setFlag x v

/-- What an instruction does to the four flags; `none` is Unaffected (R81). -/
structure FlagUpdate where
  z : Option Bool
  n : Option Bool
  h : Option Bool
  c : Option Bool
  deriving DecidableEq, Repr

/-- Apply an update (R81). -/
def State.setFlags (s : State) (u : FlagUpdate) : State :=
  (((s.updFlag .Z u.z).updFlag .N u.n).updFlag .H u.h).updFlag .C u.c

/-- `cond(cc)` (R220). -/
def State.cond (s : State) : Cond → Bool
  | .NZ => !s.getFlag .Z
  | .Z => s.getFlag .Z
  | .NC => !s.getFlag .C
  | .C => s.getFlag .C

/-! ## 8-bit arithmetic and logic -/

/-- A result byte and what happens to the flags. -/
structure Alu8 where
  res : Byte
  flags : FlagUpdate
  deriving DecidableEq, Repr

/-- `add8(a, b, cin)` (R140). -/
def add8 (a b : Byte) (cin : Bool) : Alu8 :=
  let sum := a.toNat + b.toNat + cin.toNat
  let res := BitVec.ofNat 8 sum
  { res := res
    flags :=
      { z := some (decide (res = 0))
        n := some false
        h := some (decide (a.toNat % 16 + b.toNat % 16 + cin.toNat > 0xF))
        c := some (decide (sum > 0xFF)) } }

/-- `sub8(a, b, cin)` (R140). -/
def sub8 (a b : Byte) (cin : Bool) : Alu8 :=
  let diff : Int := (a.toNat : Int) - b.toNat - cin.toNat
  let res := BitVec.ofInt 8 diff
  { res := res
    flags :=
      { z := some (decide (res = 0))
        n := some true
        h := some (decide (((a.toNat % 16 : Nat) : Int) - (b.toNat % 16 : Nat) - cin.toNat < 0))
        c := some (decide (diff < 0)) } }

/-- AND: Z computed, N clear, H set, C clear (R153). -/
def and8 (a b : Byte) : Alu8 :=
  { res := a &&& b, flags := ⟨some (decide (a &&& b = 0)), some false, some true, some false⟩ }

/-- XOR: Z computed, the others clear (R156). -/
def xor8 (a b : Byte) : Alu8 :=
  { res := a ^^^ b, flags := ⟨some (decide (a ^^^ b = 0)), some false, some false, some false⟩ }

/-- OR: Z computed, the others clear (R159). -/
def or8 (a b : Byte) : Alu8 :=
  { res := a ||| b, flags := ⟨some (decide (a ||| b = 0)), some false, some false, some false⟩ }

/-- What each ALU operation computes from A, the second operand and the carry flag (R141 to R164). CP computes what SUB
does; that it does not write A is said where the result is written. -/
def alu8 (op : AluOp) (a v : Byte) (carry : Bool) : Alu8 :=
  match op with
  | .add => add8 a v false
  | .adc => add8 a v carry
  | .sub => sub8 a v false
  | .sbc => sub8 a v carry
  | .and => and8 a v
  | .xor => xor8 a v
  | .or => or8 a v
  | .cp => sub8 a v false

/-- INC of a byte: C unaffected (R165, R166). -/
def inc8 (v : Byte) : Alu8 :=
  { res := v + 1
    flags := ⟨some (decide (v + 1 = 0)), some false, some (decide (v.toNat % 16 = 0xF)), none⟩ }

/-- DEC of a byte: C unaffected (R167, R168). -/
def dec8 (v : Byte) : Alu8 :=
  { res := v - 1
    flags := ⟨some (decide (v - 1 = 0)), some true, some (decide (v.toNat % 16 = 0x0)), none⟩ }

/-- DAA from A and the flags N, H, C: both range tests look at A before any adjustment (R169; D24, log 13). -/
def daa8 (a : Byte) (n h c : Bool) : Alu8 :=
  let low : Bool := if n then h else h || decide (a.toNat % 16 > 0x9)
  let high : Bool := if n then c else c || decide (a.toNat > 0x99)
  let adj : Byte := (if low then 0x06 else 0x00) ||| (if high then 0x60 else 0x00)
  let res := if n then a - adj else a + adj
  { res := res, flags := ⟨some (decide (res = 0)), none, some false, some high⟩ }

/-! ## 16-bit arithmetic -/

/-- A result word and what happens to the flags. -/
structure Alu16 where
  res : Word
  flags : FlagUpdate
  deriving DecidableEq, Repr

/-- `ADD HL,rr`: H out of bit 11, C out of bit 15, Z unaffected (R180). -/
def add16 (a b : Word) : Alu16 :=
  let sum := a.toNat + b.toNat
  { res := BitVec.ofNat 16 sum
    flags :=
      { z := none
        n := some false
        h := some (decide (a.toNat % 4096 + b.toNat % 4096 > 0x0FFF))
        c := some (decide (sum > 0xFFFF)) } }

/-- SP plus a signed byte: H and C from adding the byte, unsigned, to the low byte of SP (R133, R183; the spec's
resolution C5 and decision D12, log 13). -/
def addSPe8 (sp : Word) (e : Byte) : Alu16 :=
  { res := sp + sext16 e
    flags :=
      { z := some false
        n := some false
        h := some (decide (sp.toNat % 16 + e.toNat % 16 > 0xF))
        c := some (decide (sp.toNat % 256 + e.toNat > 0xFF)) } }

/-! ## Rotates, shifts, bits -/

/-- The eight functions of the table at the head of 44_rotate_shift_bit.md: result byte and carry-out. -/
def rotate (op : RotOp) (v : Byte) (cin : Bool) : Byte × Bool :=
  match op with
  | .rlc => (v.extractLsb' 0 7 ++ v.extractLsb' 7 1, v.getLsbD 7)
  | .rrc => (v.extractLsb' 0 1 ++ v.extractLsb' 1 7, v.getLsbD 0)
  | .rl => (v.extractLsb' 0 7 ++ BitVec.ofBool cin, v.getLsbD 7)
  | .rr => (BitVec.ofBool cin ++ v.extractLsb' 1 7, v.getLsbD 0)
  | .sla => (v.extractLsb' 0 7 ++ 0#1, v.getLsbD 7)
  | .sra => (v.extractLsb' 7 1 ++ v.extractLsb' 1 7, v.getLsbD 0)
  | .swap => (v.extractLsb' 0 4 ++ v.extractLsb' 4 4, false)
  | .srl => (0#1 ++ v.extractLsb' 1 7, v.getLsbD 0)

/-- The CB rotates and shifts: Z computed, N and H clear, C the carry-out (R194 to R209). -/
def rot8 (op : RotOp) (v : Byte) (cin : Bool) : Alu8 :=
  let r := rotate op v cin
  { res := r.1, flags := ⟨some (decide (r.1 = 0)), some false, some false, some r.2⟩ }

/-- The base-table rotates of A: as the CB ones, but Z clear (R190 to R193; D29, log 13). -/
def rotA8 (op : RotOp) (v : Byte) (cin : Bool) : Alu8 :=
  let r := rotate op v cin
  { res := r.1, flags := ⟨some false, some false, some false, some r.2⟩ }

/-- BIT: Z the complement of the bit, N clear, H set, C unaffected (R210, R211). -/
def bitFlags (b : Fin 8) (v : Byte) : FlagUpdate := ⟨some (!v.getLsbD b.val), some false, some true, none⟩

/-- RES (R212, R213). -/
def resBit (b : Fin 8) (v : Byte) : Byte := v &&& ~~~(1#8 <<< b.val)

/-- SET (R214, R215). -/
def setBit (b : Fin 8) (v : Byte) : Byte := v ||| (1#8 <<< b.val)

end Sys2Proof.Machine
end

