-- ==== Sys2Proof/Machine/Alu16.lean ====
section
/-! DEFINITION. 16-bit arithmetic (43_alu16.md R180 to R183). -/

namespace Sys2Proof.Machine

/-- `ADD HL,rr` (R180). -/
def addHLPair (rr : PairField) (s : State) : State :=
  let r := add16 (s.get16 .HL) (s.get16 rr.reg)
  (s.set16 .HL r.res).setFlags r.flags

/-- `INC rr`, no flags (R181). -/
def incPair (rr : PairField) (s : State) : State := s.set16 rr.reg (s.get16 rr.reg + 1)

/-- `DEC rr`, no flags (R182). -/
def decPair (rr : PairField) (s : State) : State := s.set16 rr.reg (s.get16 rr.reg - 1)

/-- `ADD SP,e8` (R183). -/
def addSP (e : Byte) (s : State) : State :=
  let r := addSPe8 (s.get16 .SP) e
  (s.set16 .SP r.res).setFlags r.flags

/-! 43_alu16.md R180 -/

def execAdd_HL_BC (s : State) : Result := .next (addHLPair .BC s)
def execAdd_HL_DE (s : State) : Result := .next (addHLPair .DE s)
def execAdd_HL_HL (s : State) : Result := .next (addHLPair .HL s)
def execAdd_HL_SP (s : State) : Result := .next (addHLPair .SP s)

/-! 43_alu16.md R181 -/

def execInc_BC (s : State) : Result := .next (incPair .BC s)
def execInc_DE (s : State) : Result := .next (incPair .DE s)
def execInc_HL (s : State) : Result := .next (incPair .HL s)
def execInc_SP (s : State) : Result := .next (incPair .SP s)

/-! 43_alu16.md R182 -/

def execDec_BC (s : State) : Result := .next (decPair .BC s)
def execDec_DE (s : State) : Result := .next (decPair .DE s)
def execDec_HL (s : State) : Result := .next (decPair .HL s)
def execDec_SP (s : State) : Result := .next (decPair .SP s)

/-! 43_alu16.md R183 -/

def execAdd_SP_e8 (e : Byte) (s : State) : Result := .next (addSP e s)

end Sys2Proof.Machine
end

