-- ==== Sys2Proof/Machine/Alu8.lean ====
section
/-! DEFINITION. 8-bit arithmetic and logic (42_alu8.md R140 to R172). Flag updates come after the other effects and read
the operands from before the instruction (R81). -/

namespace Sys2Proof.Machine

/-- An ALU operation on A and a byte: A takes the result, but for CP, and F the flags (R141 to R164). -/
def aluA (op : AluOp) (v : Byte) (s : State) : State :=
  let r := alu8 op (s.get8 .A) v (s.getFlag .C)
  let s' := match op with
    | .cp => s
    | .add | .adc | .sub | .sbc | .and | .xor | .or => s.set8 .A r.res
  s'.setFlags r.flags

/-- The `r` forms (R141, R144, R147, R150, R153, R156, R159, R162). -/
def aluReg (op : AluOp) (r : RField) (s : State) : State := aluA op (s.getR r) s

/-- The `[HL]` forms (R142, R145, R148, R151, R154, R157, R160, R163). -/
def aluHL (op : AluOp) (s : State) : State := aluA op s.readHL s

/-- The `d8` forms (R143, R146, R149, R152, R155, R158, R161, R164). -/
def aluImm (op : AluOp) (n : Byte) (s : State) : State := aluA op n s

/-- INC of a register (R165). -/
def incReg (r : RField) (s : State) : State := (s.setR r (inc8 (s.getR r)).res).setFlags (inc8 (s.getR r)).flags

/-- INC of `[HL]`: the flags come from the value read, whether or not the write is stored (R166). -/
def incHL (s : State) : State := (s.writeHL (inc8 s.readHL).res).setFlags (inc8 s.readHL).flags

/-- DEC of a register (R167). -/
def decReg (r : RField) (s : State) : State := (s.setR r (dec8 (s.getR r)).res).setFlags (dec8 (s.getR r)).flags

/-- DEC of `[HL]` (R168). -/
def decHL (s : State) : State := (s.writeHL (dec8 s.readHL).res).setFlags (dec8 s.readHL).flags

/-- DAA (R169). -/
def daa (s : State) : State :=
  let r := daa8 (s.get8 .A) (s.getFlag .N) (s.getFlag .H) (s.getFlag .C)
  (s.set8 .A r.res).setFlags r.flags

/-- CPL: N and H set, Z and C unaffected (R170). -/
def cpl (s : State) : State := (s.set8 .A (~~~(s.get8 .A))).setFlags ⟨none, some true, some true, none⟩

/-- SCF: N and H clear, C set, Z unaffected (R171). -/
def scf (s : State) : State := s.setFlags ⟨none, some false, some false, some true⟩

/-- CCF: N and H clear, C complemented, Z unaffected (R172). -/
def ccf (s : State) : State := s.setFlags ⟨none, some false, some false, some (!s.getFlag .C)⟩

/-! 42_alu8.md R141 -/

def execAdd_A_B (s : State) : Result := .next (aluReg .add .B s)
def execAdd_A_C (s : State) : Result := .next (aluReg .add .C s)
def execAdd_A_D (s : State) : Result := .next (aluReg .add .D s)
def execAdd_A_E (s : State) : Result := .next (aluReg .add .E s)
def execAdd_A_H (s : State) : Result := .next (aluReg .add .H s)
def execAdd_A_L (s : State) : Result := .next (aluReg .add .L s)
def execAdd_A_A (s : State) : Result := .next (aluReg .add .A s)

/-! 42_alu8.md R142 -/

def execAdd_A_atHL (s : State) : Result := .next (aluHL .add s)

/-! 42_alu8.md R143 -/

def execAdd_A_d8 (n : Byte) (s : State) : Result := .next (aluImm .add n s)

/-! 42_alu8.md R144 -/

def execAdc_A_B (s : State) : Result := .next (aluReg .adc .B s)
def execAdc_A_C (s : State) : Result := .next (aluReg .adc .C s)
def execAdc_A_D (s : State) : Result := .next (aluReg .adc .D s)
def execAdc_A_E (s : State) : Result := .next (aluReg .adc .E s)
def execAdc_A_H (s : State) : Result := .next (aluReg .adc .H s)
def execAdc_A_L (s : State) : Result := .next (aluReg .adc .L s)
def execAdc_A_A (s : State) : Result := .next (aluReg .adc .A s)

/-! 42_alu8.md R145 -/

def execAdc_A_atHL (s : State) : Result := .next (aluHL .adc s)

/-! 42_alu8.md R146 -/

def execAdc_A_d8 (n : Byte) (s : State) : Result := .next (aluImm .adc n s)

/-! 42_alu8.md R147 -/

def execSub_B (s : State) : Result := .next (aluReg .sub .B s)
def execSub_C (s : State) : Result := .next (aluReg .sub .C s)
def execSub_D (s : State) : Result := .next (aluReg .sub .D s)
def execSub_E (s : State) : Result := .next (aluReg .sub .E s)
def execSub_H (s : State) : Result := .next (aluReg .sub .H s)
def execSub_L (s : State) : Result := .next (aluReg .sub .L s)
def execSub_A (s : State) : Result := .next (aluReg .sub .A s)

/-! 42_alu8.md R148 -/

def execSub_atHL (s : State) : Result := .next (aluHL .sub s)

/-! 42_alu8.md R149 -/

def execSub_d8 (n : Byte) (s : State) : Result := .next (aluImm .sub n s)

/-! 42_alu8.md R150 -/

def execSbc_A_B (s : State) : Result := .next (aluReg .sbc .B s)
def execSbc_A_C (s : State) : Result := .next (aluReg .sbc .C s)
def execSbc_A_D (s : State) : Result := .next (aluReg .sbc .D s)
def execSbc_A_E (s : State) : Result := .next (aluReg .sbc .E s)
def execSbc_A_H (s : State) : Result := .next (aluReg .sbc .H s)
def execSbc_A_L (s : State) : Result := .next (aluReg .sbc .L s)
def execSbc_A_A (s : State) : Result := .next (aluReg .sbc .A s)

/-! 42_alu8.md R151 -/

def execSbc_A_atHL (s : State) : Result := .next (aluHL .sbc s)

/-! 42_alu8.md R152 -/

def execSbc_A_d8 (n : Byte) (s : State) : Result := .next (aluImm .sbc n s)

/-! 42_alu8.md R153 -/

def execAnd_B (s : State) : Result := .next (aluReg .and .B s)
def execAnd_C (s : State) : Result := .next (aluReg .and .C s)
def execAnd_D (s : State) : Result := .next (aluReg .and .D s)
def execAnd_E (s : State) : Result := .next (aluReg .and .E s)
def execAnd_H (s : State) : Result := .next (aluReg .and .H s)
def execAnd_L (s : State) : Result := .next (aluReg .and .L s)
def execAnd_A (s : State) : Result := .next (aluReg .and .A s)

/-! 42_alu8.md R154 -/

def execAnd_atHL (s : State) : Result := .next (aluHL .and s)

/-! 42_alu8.md R155 -/

def execAnd_d8 (n : Byte) (s : State) : Result := .next (aluImm .and n s)

/-! 42_alu8.md R156 -/

def execXor_B (s : State) : Result := .next (aluReg .xor .B s)
def execXor_C (s : State) : Result := .next (aluReg .xor .C s)
def execXor_D (s : State) : Result := .next (aluReg .xor .D s)
def execXor_E (s : State) : Result := .next (aluReg .xor .E s)
def execXor_H (s : State) : Result := .next (aluReg .xor .H s)
def execXor_L (s : State) : Result := .next (aluReg .xor .L s)
def execXor_A (s : State) : Result := .next (aluReg .xor .A s)

/-! 42_alu8.md R157 -/

def execXor_atHL (s : State) : Result := .next (aluHL .xor s)

/-! 42_alu8.md R158 -/

def execXor_d8 (n : Byte) (s : State) : Result := .next (aluImm .xor n s)

/-! 42_alu8.md R159 -/

def execOr_B (s : State) : Result := .next (aluReg .or .B s)
def execOr_C (s : State) : Result := .next (aluReg .or .C s)
def execOr_D (s : State) : Result := .next (aluReg .or .D s)
def execOr_E (s : State) : Result := .next (aluReg .or .E s)
def execOr_H (s : State) : Result := .next (aluReg .or .H s)
def execOr_L (s : State) : Result := .next (aluReg .or .L s)
def execOr_A (s : State) : Result := .next (aluReg .or .A s)

/-! 42_alu8.md R160 -/

def execOr_atHL (s : State) : Result := .next (aluHL .or s)

/-! 42_alu8.md R161 -/

def execOr_d8 (n : Byte) (s : State) : Result := .next (aluImm .or n s)

/-! 42_alu8.md R162 -/

def execCp_B (s : State) : Result := .next (aluReg .cp .B s)
def execCp_C (s : State) : Result := .next (aluReg .cp .C s)
def execCp_D (s : State) : Result := .next (aluReg .cp .D s)
def execCp_E (s : State) : Result := .next (aluReg .cp .E s)
def execCp_H (s : State) : Result := .next (aluReg .cp .H s)
def execCp_L (s : State) : Result := .next (aluReg .cp .L s)
def execCp_A (s : State) : Result := .next (aluReg .cp .A s)

/-! 42_alu8.md R163 -/

def execCp_atHL (s : State) : Result := .next (aluHL .cp s)

/-! 42_alu8.md R164 -/

def execCp_d8 (n : Byte) (s : State) : Result := .next (aluImm .cp n s)

/-! 42_alu8.md R165 -/

def execInc_B (s : State) : Result := .next (incReg .B s)
def execInc_C (s : State) : Result := .next (incReg .C s)
def execInc_D (s : State) : Result := .next (incReg .D s)
def execInc_E (s : State) : Result := .next (incReg .E s)
def execInc_H (s : State) : Result := .next (incReg .H s)
def execInc_L (s : State) : Result := .next (incReg .L s)
def execInc_A (s : State) : Result := .next (incReg .A s)

/-! 42_alu8.md R166 -/

def execInc_atHL (s : State) : Result := .next (incHL s)

/-! 42_alu8.md R167 -/

def execDec_B (s : State) : Result := .next (decReg .B s)
def execDec_C (s : State) : Result := .next (decReg .C s)
def execDec_D (s : State) : Result := .next (decReg .D s)
def execDec_E (s : State) : Result := .next (decReg .E s)
def execDec_H (s : State) : Result := .next (decReg .H s)
def execDec_L (s : State) : Result := .next (decReg .L s)
def execDec_A (s : State) : Result := .next (decReg .A s)

/-! 42_alu8.md R168 -/

def execDec_atHL (s : State) : Result := .next (decHL s)

/-! 42_alu8.md R169 -/

def execDaa (s : State) : Result := .next (daa s)

/-! 42_alu8.md R170 -/

def execCpl (s : State) : Result := .next (cpl s)

/-! 42_alu8.md R171 -/

def execScf (s : State) : Result := .next (scf s)

/-! 42_alu8.md R172 -/

def execCcf (s : State) : Result := .next (ccf s)

end Sys2Proof.Machine
end

