-- ==== Sys2Proof/Machine/Control.lean ====
section
/-! DEFINITION. Jumps, calls and returns (45_control.md R220 to R231). `s.pc` is `PCnext`: PC already stands past the
whole instruction (R15, R76). No flag is touched. -/

namespace Sys2Proof.Machine

/-- `PC <- a16` (R221). -/
def jump (aa : Word) (s : State) : State := s.set16 .PC aa

/-- `if cond(cc) then PC <- a16` (R222). -/
def jumpIf (cc : Cond) (aa : Word) (s : State) : State := if s.cond cc then jump aa s else s

/-- `PC <- HL` (R223). -/
def jumpHL (s : State) : State := jump (s.get16 .HL) s

/-- `PC <- PCnext + sext_16(n)` (R224). -/
def jumpRel (e : Byte) (s : State) : State := jump (s.get16 .PC + sext16 e) s

/-- `if cond(cc) then PC <- PCnext + sext_16(n)` (R225). -/
def jumpRelIf (cc : Cond) (e : Byte) (s : State) : State := if s.cond cc then jumpRel e s else s

/-- `push16(PCnext); PC <- a16` (R226). -/
def call (aa : Word) (s : State) : State := jump aa (s.push16 (s.get16 .PC))

/-- `if cond(cc) then { push16(PCnext); PC <- a16 }` (R227). -/
def callIf (cc : Cond) (aa : Word) (s : State) : State := if s.cond cc then call aa s else s

/-- `PC <- pop16()` (R228). -/
def ret (s : State) : State :=
  let p := s.pop16
  jump p.1 p.2

/-- `if cond(cc) then PC <- pop16()` (R229). -/
def retIf (cc : Cond) (s : State) : State := if s.cond cc then ret s else s

/-- `PC <- pop16(); IME <- 1` (R230). -/
def reti (s : State) : State := { ret s with ime := true }

/-- `push16(PCnext); PC <- zext_16(ttt * 8)` (R231). -/
def rst (t : Fin 8) (s : State) : State := call (BitVec.ofNat 16 (t.val * 8)) s

/-! 45_control.md R221 -/

def execJp_a16 (aa : Word) (s : State) : Result := .next (jump aa s)

/-! 45_control.md R222 -/

def execJp_NZ_a16 (aa : Word) (s : State) : Result := .next (jumpIf .NZ aa s)
def execJp_Z_a16 (aa : Word) (s : State) : Result := .next (jumpIf .Z aa s)
def execJp_NC_a16 (aa : Word) (s : State) : Result := .next (jumpIf .NC aa s)
def execJp_C_a16 (aa : Word) (s : State) : Result := .next (jumpIf .C aa s)

/-! 45_control.md R223 -/

def execJp_HL (s : State) : Result := .next (jumpHL s)

/-! 45_control.md R224 -/

def execJr_e8 (e : Byte) (s : State) : Result := .next (jumpRel e s)

/-! 45_control.md R225 -/

def execJr_NZ_e8 (e : Byte) (s : State) : Result := .next (jumpRelIf .NZ e s)
def execJr_Z_e8 (e : Byte) (s : State) : Result := .next (jumpRelIf .Z e s)
def execJr_NC_e8 (e : Byte) (s : State) : Result := .next (jumpRelIf .NC e s)
def execJr_C_e8 (e : Byte) (s : State) : Result := .next (jumpRelIf .C e s)

/-! 45_control.md R226 -/

def execCall_a16 (aa : Word) (s : State) : Result := .next (call aa s)

/-! 45_control.md R227 -/

def execCall_NZ_a16 (aa : Word) (s : State) : Result := .next (callIf .NZ aa s)
def execCall_Z_a16 (aa : Word) (s : State) : Result := .next (callIf .Z aa s)
def execCall_NC_a16 (aa : Word) (s : State) : Result := .next (callIf .NC aa s)
def execCall_C_a16 (aa : Word) (s : State) : Result := .next (callIf .C aa s)

/-! 45_control.md R228 -/

def execRet (s : State) : Result := .next (ret s)

/-! 45_control.md R229 -/

def execRet_NZ (s : State) : Result := .next (retIf .NZ s)
def execRet_Z (s : State) : Result := .next (retIf .Z s)
def execRet_NC (s : State) : Result := .next (retIf .NC s)
def execRet_C (s : State) : Result := .next (retIf .C s)

/-! 45_control.md R230 -/

def execReti (s : State) : Result := .next (reti s)

/-! 45_control.md R231 -/

def execRst_00 (s : State) : Result := .next (rst 0 s)
def execRst_08 (s : State) : Result := .next (rst 1 s)
def execRst_10 (s : State) : Result := .next (rst 2 s)
def execRst_18 (s : State) : Result := .next (rst 3 s)
def execRst_20 (s : State) : Result := .next (rst 4 s)
def execRst_28 (s : State) : Result := .next (rst 5 s)
def execRst_30 (s : State) : Result := .next (rst 6 s)
def execRst_38 (s : State) : Result := .next (rst 7 s)

end Sys2Proof.Machine
end

