-- ==== Sys2Proof/Machine/Load16.lean ====
section
/-! DEFINITION. The 16-bit loads, PUSH and POP (41_load16.md R130 to R136). -/

namespace Sys2Proof.Machine

/-- `r16[pp] <- hi:lo` (R130). -/
def loadPairImm (rr : PairField) (nn : Word) (s : State) : State := s.set16 rr.reg nn

/-- `MemWrite(a16, 2, SP)` (R131). -/
def storeSPDirect (aa : Word) (s : State) : State := s.write16 aa (s.get16 .SP)

/-- `SP <- HL` (R132). -/
def loadSPHL (s : State) : State := s.set16 .SP (s.get16 .HL)

/-- `HL <- SP + sext_16(n)`, with the flags of the low-byte addition (R133). -/
def loadHLSPe8 (e : Byte) (s : State) : State :=
  let r := addSPe8 (s.get16 .SP) e
  (s.set16 .HL r.res).setFlags r.flags

/-- `push16(r16[pp])` (R134). -/
def pushPair (rr : StackField) (s : State) : State := s.push16 (s.get16 rr.reg)

/-- `r16[pp] <- pop16()`; for AF the low nibble of the popped byte is dropped (R135, R136). -/
def popPair (rr : StackField) (s : State) : State :=
  let p := s.pop16
  p.2.set16 rr.reg p.1

/-! 41_load16.md R130 -/

def execLd_BC_d16 (nn : Word) (s : State) : Result := .next (loadPairImm .BC nn s)
def execLd_DE_d16 (nn : Word) (s : State) : Result := .next (loadPairImm .DE nn s)
def execLd_HL_d16 (nn : Word) (s : State) : Result := .next (loadPairImm .HL nn s)
def execLd_SP_d16 (nn : Word) (s : State) : Result := .next (loadPairImm .SP nn s)

/-! 41_load16.md R131 -/

def execLd_atA16_SP (aa : Word) (s : State) : Result := .next (storeSPDirect aa s)

/-! 41_load16.md R132 -/

def execLd_SP_HL (s : State) : Result := .next (loadSPHL s)

/-! 41_load16.md R133 -/

def execLd_HL_SPe8 (e : Byte) (s : State) : Result := .next (loadHLSPe8 e s)

/-! 41_load16.md R134 -/

def execPush_BC (s : State) : Result := .next (pushPair .BC s)
def execPush_DE (s : State) : Result := .next (pushPair .DE s)
def execPush_HL (s : State) : Result := .next (pushPair .HL s)
def execPush_AF (s : State) : Result := .next (pushPair .AF s)

/-! 41_load16.md R135 -/

def execPop_BC (s : State) : Result := .next (popPair .BC s)
def execPop_DE (s : State) : Result := .next (popPair .DE s)
def execPop_HL (s : State) : Result := .next (popPair .HL s)

/-! 41_load16.md R136 -/

def execPop_AF (s : State) : Result := .next (popPair .AF s)

end Sys2Proof.Machine
end

