-- ==== Sys2Proof/Machine/Load8.lean ====
section
/-! DEFINITION. The 8-bit loads and stores (40_load8.md R101 to R119): first what each kind of load does, then one
meaning for each instruction. No flag is touched. PC already stands past the instruction (R15, R76). -/

namespace Sys2Proof.Machine

/-- `r8[rrr] <- r8[sss]` (R101). -/
def loadRegReg (d r : RField) (s : State) : State := s.setR d (s.getR r)

/-- `r8[rrr] <- n` (R102). -/
def loadRegImm (d : RField) (n : Byte) (s : State) : State := s.setR d n

/-- `r8[rrr] <- MemRead(HL, 1)` (R103). -/
def loadRegHL (d : RField) (s : State) : State := s.setR d s.readHL

/-- `MemWrite(HL, 1, r8[sss])` (R104). -/
def storeHLReg (r : RField) (s : State) : State := s.writeHL (s.getR r)

/-- `MemWrite(HL, 1, n)` (R105). -/
def storeHLImm (n : Byte) (s : State) : State := s.writeHL n

/-- `A <- MemRead(x, 1)`, then the step of HL (R106, R107, R117, R119). -/
def loadAAt (x : AtField) (s : State) : State := (s.set8 .A (s.read (s.atAddr x))).atStep x

/-- `MemWrite(x, 1, A)`, then the step of HL (R108, R109, R116, R118). -/
def storeAtA (x : AtField) (s : State) : State := (s.write (s.atAddr x) (s.get8 .A)).atStep x

/-- `A <- MemRead(a16, 1)` (R110). -/
def loadADirect (aa : Word) (s : State) : State := s.set8 .A (s.read aa)

/-- `MemWrite(a16, 1, A)` (R111). -/
def storeADirect (aa : Word) (s : State) : State := s.write aa (s.get8 .A)

/-- `A <- MemRead(0xFF00 | n, 1)` (R112). -/
def loadAHigh (n : Byte) (s : State) : State := s.set8 .A (s.read (highPageAddr n))

/-- `MemWrite(0xFF00 | n, 1, A)` (R113). -/
def storeAHigh (n : Byte) (s : State) : State := s.write (highPageAddr n) (s.get8 .A)

/-- `A <- MemRead(0xFF00 | C, 1)` (R114). -/
def loadAHighC (s : State) : State := s.set8 .A (s.read (highPageAddr (s.get8 .C)))

/-- `MemWrite(0xFF00 | C, 1, A)` (R115). -/
def storeAHighC (s : State) : State := s.write (highPageAddr (s.get8 .C)) (s.get8 .A)

/-! 40_load8.md R101 -/

def execLd_B_B (s : State) : Result := .next (loadRegReg .B .B s)
def execLd_B_C (s : State) : Result := .next (loadRegReg .B .C s)
def execLd_B_D (s : State) : Result := .next (loadRegReg .B .D s)
def execLd_B_E (s : State) : Result := .next (loadRegReg .B .E s)
def execLd_B_H (s : State) : Result := .next (loadRegReg .B .H s)
def execLd_B_L (s : State) : Result := .next (loadRegReg .B .L s)
def execLd_B_A (s : State) : Result := .next (loadRegReg .B .A s)
def execLd_C_B (s : State) : Result := .next (loadRegReg .C .B s)
def execLd_C_C (s : State) : Result := .next (loadRegReg .C .C s)
def execLd_C_D (s : State) : Result := .next (loadRegReg .C .D s)
def execLd_C_E (s : State) : Result := .next (loadRegReg .C .E s)
def execLd_C_H (s : State) : Result := .next (loadRegReg .C .H s)
def execLd_C_L (s : State) : Result := .next (loadRegReg .C .L s)
def execLd_C_A (s : State) : Result := .next (loadRegReg .C .A s)
def execLd_D_B (s : State) : Result := .next (loadRegReg .D .B s)
def execLd_D_C (s : State) : Result := .next (loadRegReg .D .C s)
def execLd_D_D (s : State) : Result := .next (loadRegReg .D .D s)
def execLd_D_E (s : State) : Result := .next (loadRegReg .D .E s)
def execLd_D_H (s : State) : Result := .next (loadRegReg .D .H s)
def execLd_D_L (s : State) : Result := .next (loadRegReg .D .L s)
def execLd_D_A (s : State) : Result := .next (loadRegReg .D .A s)
def execLd_E_B (s : State) : Result := .next (loadRegReg .E .B s)
def execLd_E_C (s : State) : Result := .next (loadRegReg .E .C s)
def execLd_E_D (s : State) : Result := .next (loadRegReg .E .D s)
def execLd_E_E (s : State) : Result := .next (loadRegReg .E .E s)
def execLd_E_H (s : State) : Result := .next (loadRegReg .E .H s)
def execLd_E_L (s : State) : Result := .next (loadRegReg .E .L s)
def execLd_E_A (s : State) : Result := .next (loadRegReg .E .A s)
def execLd_H_B (s : State) : Result := .next (loadRegReg .H .B s)
def execLd_H_C (s : State) : Result := .next (loadRegReg .H .C s)
def execLd_H_D (s : State) : Result := .next (loadRegReg .H .D s)
def execLd_H_E (s : State) : Result := .next (loadRegReg .H .E s)
def execLd_H_H (s : State) : Result := .next (loadRegReg .H .H s)
def execLd_H_L (s : State) : Result := .next (loadRegReg .H .L s)
def execLd_H_A (s : State) : Result := .next (loadRegReg .H .A s)
def execLd_L_B (s : State) : Result := .next (loadRegReg .L .B s)
def execLd_L_C (s : State) : Result := .next (loadRegReg .L .C s)
def execLd_L_D (s : State) : Result := .next (loadRegReg .L .D s)
def execLd_L_E (s : State) : Result := .next (loadRegReg .L .E s)
def execLd_L_H (s : State) : Result := .next (loadRegReg .L .H s)
def execLd_L_L (s : State) : Result := .next (loadRegReg .L .L s)
def execLd_L_A (s : State) : Result := .next (loadRegReg .L .A s)
def execLd_A_B (s : State) : Result := .next (loadRegReg .A .B s)
def execLd_A_C (s : State) : Result := .next (loadRegReg .A .C s)
def execLd_A_D (s : State) : Result := .next (loadRegReg .A .D s)
def execLd_A_E (s : State) : Result := .next (loadRegReg .A .E s)
def execLd_A_H (s : State) : Result := .next (loadRegReg .A .H s)
def execLd_A_L (s : State) : Result := .next (loadRegReg .A .L s)
def execLd_A_A (s : State) : Result := .next (loadRegReg .A .A s)

/-! 40_load8.md R102 -/

def execLd_B_d8 (n : Byte) (s : State) : Result := .next (loadRegImm .B n s)
def execLd_C_d8 (n : Byte) (s : State) : Result := .next (loadRegImm .C n s)
def execLd_D_d8 (n : Byte) (s : State) : Result := .next (loadRegImm .D n s)
def execLd_E_d8 (n : Byte) (s : State) : Result := .next (loadRegImm .E n s)
def execLd_H_d8 (n : Byte) (s : State) : Result := .next (loadRegImm .H n s)
def execLd_L_d8 (n : Byte) (s : State) : Result := .next (loadRegImm .L n s)
def execLd_A_d8 (n : Byte) (s : State) : Result := .next (loadRegImm .A n s)

/-! 40_load8.md R103 -/

def execLd_B_atHL (s : State) : Result := .next (loadRegHL .B s)
def execLd_C_atHL (s : State) : Result := .next (loadRegHL .C s)
def execLd_D_atHL (s : State) : Result := .next (loadRegHL .D s)
def execLd_E_atHL (s : State) : Result := .next (loadRegHL .E s)
def execLd_H_atHL (s : State) : Result := .next (loadRegHL .H s)
def execLd_L_atHL (s : State) : Result := .next (loadRegHL .L s)
def execLd_A_atHL (s : State) : Result := .next (loadRegHL .A s)

/-! 40_load8.md R104 -/

def execLd_atHL_B (s : State) : Result := .next (storeHLReg .B s)
def execLd_atHL_C (s : State) : Result := .next (storeHLReg .C s)
def execLd_atHL_D (s : State) : Result := .next (storeHLReg .D s)
def execLd_atHL_E (s : State) : Result := .next (storeHLReg .E s)
def execLd_atHL_H (s : State) : Result := .next (storeHLReg .H s)
def execLd_atHL_L (s : State) : Result := .next (storeHLReg .L s)
def execLd_atHL_A (s : State) : Result := .next (storeHLReg .A s)

/-! 40_load8.md R105 -/

def execLd_atHL_d8 (n : Byte) (s : State) : Result := .next (storeHLImm n s)

/-! 40_load8.md R106 -/

def execLd_A_atBC (s : State) : Result := .next (loadAAt .BC s)

/-! 40_load8.md R107 -/

def execLd_A_atDE (s : State) : Result := .next (loadAAt .DE s)

/-! 40_load8.md R108 -/

def execLd_atBC_A (s : State) : Result := .next (storeAtA .BC s)

/-! 40_load8.md R109 -/

def execLd_atDE_A (s : State) : Result := .next (storeAtA .DE s)

/-! 40_load8.md R110 -/

def execLd_A_atA16 (aa : Word) (s : State) : Result := .next (loadADirect aa s)

/-! 40_load8.md R111 -/

def execLd_atA16_A (aa : Word) (s : State) : Result := .next (storeADirect aa s)

/-! 40_load8.md R112 -/

def execLdh_A_atA8 (a : Byte) (s : State) : Result := .next (loadAHigh a s)

/-! 40_load8.md R113 -/

def execLdh_atA8_A (a : Byte) (s : State) : Result := .next (storeAHigh a s)

/-! 40_load8.md R114 -/

def execLdh_A_atC (s : State) : Result := .next (loadAHighC s)

/-! 40_load8.md R115 -/

def execLdh_atC_A (s : State) : Result := .next (storeAHighC s)

/-! 40_load8.md R116 -/

def execLd_atHLinc_A (s : State) : Result := .next (storeAtA .HLinc s)

/-! 40_load8.md R117 -/

def execLd_A_atHLinc (s : State) : Result := .next (loadAAt .HLinc s)

/-! 40_load8.md R118 -/

def execLd_atHLdec_A (s : State) : Result := .next (storeAtA .HLdec s)

/-! 40_load8.md R119 -/

def execLd_A_atHLdec (s : State) : Result := .next (loadAAt .HLdec s)

end Sys2Proof.Machine
end

