-- ==== Sys2Proof/Machine/Misc.lean ====
section
/-! DEFINITION. NOP, HALT, DI, EI and the values with no entry (46_misc.md R250 to R256). -/

namespace Sys2Proof.Machine

/-- Nothing: PC was advanced by the fetch (R250). -/
def nop (s : State) : State := s

/-- `ExecutorState <- Halted`, whatever IME is (R251). -/
def halt (s : State) : State := { s with execState := .halted }

/-- `IME <- 0` (R252). -/
def di (s : State) : State := { s with ime := false }

/-- `IME <- 1`, at once (R253). -/
def ei (s : State) : State := { s with ime := true }

/-! 46_misc.md R250 -/

def execNop (s : State) : Result := .next (nop s)

/-! 46_misc.md R251 -/

def execHalt (s : State) : Result := .next (halt s)

/-! 46_misc.md R252 -/

def execDi (s : State) : Result := .next (di s)

/-! 46_misc.md R253 -/

def execEi (s : State) : Result := .next (ei s)

/-! 46_misc.md R255 -/

def execNo_entry_D3 (s : State) : Result := raiseDecodeError 0xD3 s
def execNo_entry_DB (s : State) : Result := raiseDecodeError 0xDB s
def execNo_entry_DD (s : State) : Result := raiseDecodeError 0xDD s
def execNo_entry_E3 (s : State) : Result := raiseDecodeError 0xE3 s
def execNo_entry_E4 (s : State) : Result := raiseDecodeError 0xE4 s
def execNo_entry_EB (s : State) : Result := raiseDecodeError 0xEB s
def execNo_entry_EC (s : State) : Result := raiseDecodeError 0xEC s
def execNo_entry_ED (s : State) : Result := raiseDecodeError 0xED s
def execNo_entry_F4 (s : State) : Result := raiseDecodeError 0xF4 s
def execNo_entry_FC (s : State) : Result := raiseDecodeError 0xFC s
def execNo_entry_FD (s : State) : Result := raiseDecodeError 0xFD s

/-! 46_misc.md R256 -/

def execNo_entry_10 (s : State) : Result := raiseDecodeError 0x10 s

end Sys2Proof.Machine
end

