-- ==== Sys2Proof/Machine/Rotate.lean ====
section
/-! DEFINITION. Rotates, shifts and bit operations (44_rotate_shift_bit.md R190 to R215), and the CB byte, which runs
the entry of the CB table that `opcode2` selects (30_encoding.md R77, R79; 46_misc.md R254). -/

namespace Sys2Proof.Machine

/-- The base-table rotates of A (R190 to R193). -/
def rotA (op : RotOp) (s : State) : State :=
  let r := rotA8 op (s.get8 .A) (s.getFlag .C)
  (s.set8 .A r.res).setFlags r.flags

/-- A rotate or shift of a register (R194, R196, R198, R200, R202, R204, R206, R208). -/
def rotReg (op : RotOp) (r : RField) (s : State) : State :=
  let x := rot8 op (s.getR r) (s.getFlag .C)
  (s.setR r x.res).setFlags x.flags

/-- A rotate or shift of `[HL]`: one read, one write; the flags come from the value read (R195, R197, R199, R201, R203,
R205, R207, R209). -/
def rotHL (op : RotOp) (s : State) : State :=
  let x := rot8 op s.readHL (s.getFlag .C)
  (s.writeHL x.res).setFlags x.flags

/-- `BIT b,r` (R210). -/
def bitReg (b : Fin 8) (r : RField) (s : State) : State := s.setFlags (bitFlags b (s.getR r))

/-- `BIT b,[HL]`: one read, no write (R211). -/
def bitHL (b : Fin 8) (s : State) : State := s.setFlags (bitFlags b s.readHL)

/-- `RES b,r` (R212). -/
def resReg (b : Fin 8) (r : RField) (s : State) : State := s.setR r (resBit b (s.getR r))

/-- `RES b,[HL]` (R213). -/
def resHL (b : Fin 8) (s : State) : State := s.writeHL (resBit b s.readHL)

/-- `SET b,r` (R214). -/
def setReg (b : Fin 8) (r : RField) (s : State) : State := s.setR r (setBit b (s.getR r))

/-- `SET b,[HL]` (R215). -/
def setHL (b : Fin 8) (s : State) : State := s.writeHL (setBit b s.readHL)

/-- The CB table by fields: `x` selects the operation, `y` the function or bit number, `z` the operand (R71, R79). -/
def runCB (opcode2 : Byte) (s : State) : State :=
  let x := opcode2.toNat / 64
  let y := opcode2.toNat / 8 % 8
  let b : Fin 8 := ⟨y, Nat.mod_lt _ (by decide)⟩
  match x, RField.ofCode (opcode2.toNat % 8) with
  | 0, some r => rotReg (RotOp.ofCode y) r s
  | 0, none => rotHL (RotOp.ofCode y) s
  | 1, some r => bitReg b r s
  | 1, none => bitHL b s
  | 2, some r => resReg b r s
  | 2, none => resHL b s
  | _, some r => setReg b r s
  | _, none => setHL b s

/-! 44_rotate_shift_bit.md R190 -/

def execRlca (s : State) : Result := .next (rotA .rlc s)

/-! 44_rotate_shift_bit.md R191 -/

def execRla (s : State) : Result := .next (rotA .rl s)

/-! 44_rotate_shift_bit.md R192 -/

def execRrca (s : State) : Result := .next (rotA .rrc s)

/-! 44_rotate_shift_bit.md R193 -/

def execRra (s : State) : Result := .next (rotA .rr s)

/-! 44_rotate_shift_bit.md R194 -/

def execRlc_B (s : State) : Result := .next (rotReg .rlc .B s)
def execRlc_C (s : State) : Result := .next (rotReg .rlc .C s)
def execRlc_D (s : State) : Result := .next (rotReg .rlc .D s)
def execRlc_E (s : State) : Result := .next (rotReg .rlc .E s)
def execRlc_H (s : State) : Result := .next (rotReg .rlc .H s)
def execRlc_L (s : State) : Result := .next (rotReg .rlc .L s)
def execRlc_A (s : State) : Result := .next (rotReg .rlc .A s)

/-! 44_rotate_shift_bit.md R195 -/

def execRlc_atHL (s : State) : Result := .next (rotHL .rlc s)

/-! 44_rotate_shift_bit.md R196 -/

def execRrc_B (s : State) : Result := .next (rotReg .rrc .B s)
def execRrc_C (s : State) : Result := .next (rotReg .rrc .C s)
def execRrc_D (s : State) : Result := .next (rotReg .rrc .D s)
def execRrc_E (s : State) : Result := .next (rotReg .rrc .E s)
def execRrc_H (s : State) : Result := .next (rotReg .rrc .H s)
def execRrc_L (s : State) : Result := .next (rotReg .rrc .L s)
def execRrc_A (s : State) : Result := .next (rotReg .rrc .A s)

/-! 44_rotate_shift_bit.md R197 -/

def execRrc_atHL (s : State) : Result := .next (rotHL .rrc s)

/-! 44_rotate_shift_bit.md R198 -/

def execRl_B (s : State) : Result := .next (rotReg .rl .B s)
def execRl_C (s : State) : Result := .next (rotReg .rl .C s)
def execRl_D (s : State) : Result := .next (rotReg .rl .D s)
def execRl_E (s : State) : Result := .next (rotReg .rl .E s)
def execRl_H (s : State) : Result := .next (rotReg .rl .H s)
def execRl_L (s : State) : Result := .next (rotReg .rl .L s)
def execRl_A (s : State) : Result := .next (rotReg .rl .A s)

/-! 44_rotate_shift_bit.md R199 -/

def execRl_atHL (s : State) : Result := .next (rotHL .rl s)

/-! 44_rotate_shift_bit.md R200 -/

def execRr_B (s : State) : Result := .next (rotReg .rr .B s)
def execRr_C (s : State) : Result := .next (rotReg .rr .C s)
def execRr_D (s : State) : Result := .next (rotReg .rr .D s)
def execRr_E (s : State) : Result := .next (rotReg .rr .E s)
def execRr_H (s : State) : Result := .next (rotReg .rr .H s)
def execRr_L (s : State) : Result := .next (rotReg .rr .L s)
def execRr_A (s : State) : Result := .next (rotReg .rr .A s)

/-! 44_rotate_shift_bit.md R201 -/

def execRr_atHL (s : State) : Result := .next (rotHL .rr s)

/-! 44_rotate_shift_bit.md R202 -/

def execSla_B (s : State) : Result := .next (rotReg .sla .B s)
def execSla_C (s : State) : Result := .next (rotReg .sla .C s)
def execSla_D (s : State) : Result := .next (rotReg .sla .D s)
def execSla_E (s : State) : Result := .next (rotReg .sla .E s)
def execSla_H (s : State) : Result := .next (rotReg .sla .H s)
def execSla_L (s : State) : Result := .next (rotReg .sla .L s)
def execSla_A (s : State) : Result := .next (rotReg .sla .A s)

/-! 44_rotate_shift_bit.md R203 -/

def execSla_atHL (s : State) : Result := .next (rotHL .sla s)

/-! 44_rotate_shift_bit.md R204 -/

def execSra_B (s : State) : Result := .next (rotReg .sra .B s)
def execSra_C (s : State) : Result := .next (rotReg .sra .C s)
def execSra_D (s : State) : Result := .next (rotReg .sra .D s)
def execSra_E (s : State) : Result := .next (rotReg .sra .E s)
def execSra_H (s : State) : Result := .next (rotReg .sra .H s)
def execSra_L (s : State) : Result := .next (rotReg .sra .L s)
def execSra_A (s : State) : Result := .next (rotReg .sra .A s)

/-! 44_rotate_shift_bit.md R205 -/

def execSra_atHL (s : State) : Result := .next (rotHL .sra s)

/-! 44_rotate_shift_bit.md R206 -/

def execSwap_B (s : State) : Result := .next (rotReg .swap .B s)
def execSwap_C (s : State) : Result := .next (rotReg .swap .C s)
def execSwap_D (s : State) : Result := .next (rotReg .swap .D s)
def execSwap_E (s : State) : Result := .next (rotReg .swap .E s)
def execSwap_H (s : State) : Result := .next (rotReg .swap .H s)
def execSwap_L (s : State) : Result := .next (rotReg .swap .L s)
def execSwap_A (s : State) : Result := .next (rotReg .swap .A s)

/-! 44_rotate_shift_bit.md R207 -/

def execSwap_atHL (s : State) : Result := .next (rotHL .swap s)

/-! 44_rotate_shift_bit.md R208 -/

def execSrl_B (s : State) : Result := .next (rotReg .srl .B s)
def execSrl_C (s : State) : Result := .next (rotReg .srl .C s)
def execSrl_D (s : State) : Result := .next (rotReg .srl .D s)
def execSrl_E (s : State) : Result := .next (rotReg .srl .E s)
def execSrl_H (s : State) : Result := .next (rotReg .srl .H s)
def execSrl_L (s : State) : Result := .next (rotReg .srl .L s)
def execSrl_A (s : State) : Result := .next (rotReg .srl .A s)

/-! 44_rotate_shift_bit.md R209 -/

def execSrl_atHL (s : State) : Result := .next (rotHL .srl s)

/-! 44_rotate_shift_bit.md R210 -/

def execBit_0_B (s : State) : Result := .next (bitReg 0 .B s)
def execBit_0_C (s : State) : Result := .next (bitReg 0 .C s)
def execBit_0_D (s : State) : Result := .next (bitReg 0 .D s)
def execBit_0_E (s : State) : Result := .next (bitReg 0 .E s)
def execBit_0_H (s : State) : Result := .next (bitReg 0 .H s)
def execBit_0_L (s : State) : Result := .next (bitReg 0 .L s)
def execBit_0_A (s : State) : Result := .next (bitReg 0 .A s)
def execBit_1_B (s : State) : Result := .next (bitReg 1 .B s)
def execBit_1_C (s : State) : Result := .next (bitReg 1 .C s)
def execBit_1_D (s : State) : Result := .next (bitReg 1 .D s)
def execBit_1_E (s : State) : Result := .next (bitReg 1 .E s)
def execBit_1_H (s : State) : Result := .next (bitReg 1 .H s)
def execBit_1_L (s : State) : Result := .next (bitReg 1 .L s)
def execBit_1_A (s : State) : Result := .next (bitReg 1 .A s)
def execBit_2_B (s : State) : Result := .next (bitReg 2 .B s)
def execBit_2_C (s : State) : Result := .next (bitReg 2 .C s)
def execBit_2_D (s : State) : Result := .next (bitReg 2 .D s)
def execBit_2_E (s : State) : Result := .next (bitReg 2 .E s)
def execBit_2_H (s : State) : Result := .next (bitReg 2 .H s)
def execBit_2_L (s : State) : Result := .next (bitReg 2 .L s)
def execBit_2_A (s : State) : Result := .next (bitReg 2 .A s)
def execBit_3_B (s : State) : Result := .next (bitReg 3 .B s)
def execBit_3_C (s : State) : Result := .next (bitReg 3 .C s)
def execBit_3_D (s : State) : Result := .next (bitReg 3 .D s)
def execBit_3_E (s : State) : Result := .next (bitReg 3 .E s)
def execBit_3_H (s : State) : Result := .next (bitReg 3 .H s)
def execBit_3_L (s : State) : Result := .next (bitReg 3 .L s)
def execBit_3_A (s : State) : Result := .next (bitReg 3 .A s)
def execBit_4_B (s : State) : Result := .next (bitReg 4 .B s)
def execBit_4_C (s : State) : Result := .next (bitReg 4 .C s)
def execBit_4_D (s : State) : Result := .next (bitReg 4 .D s)
def execBit_4_E (s : State) : Result := .next (bitReg 4 .E s)
def execBit_4_H (s : State) : Result := .next (bitReg 4 .H s)
def execBit_4_L (s : State) : Result := .next (bitReg 4 .L s)
def execBit_4_A (s : State) : Result := .next (bitReg 4 .A s)
def execBit_5_B (s : State) : Result := .next (bitReg 5 .B s)
def execBit_5_C (s : State) : Result := .next (bitReg 5 .C s)
def execBit_5_D (s : State) : Result := .next (bitReg 5 .D s)
def execBit_5_E (s : State) : Result := .next (bitReg 5 .E s)
def execBit_5_H (s : State) : Result := .next (bitReg 5 .H s)
def execBit_5_L (s : State) : Result := .next (bitReg 5 .L s)
def execBit_5_A (s : State) : Result := .next (bitReg 5 .A s)
def execBit_6_B (s : State) : Result := .next (bitReg 6 .B s)
def execBit_6_C (s : State) : Result := .next (bitReg 6 .C s)
def execBit_6_D (s : State) : Result := .next (bitReg 6 .D s)
def execBit_6_E (s : State) : Result := .next (bitReg 6 .E s)
def execBit_6_H (s : State) : Result := .next (bitReg 6 .H s)
def execBit_6_L (s : State) : Result := .next (bitReg 6 .L s)
def execBit_6_A (s : State) : Result := .next (bitReg 6 .A s)
def execBit_7_B (s : State) : Result := .next (bitReg 7 .B s)
def execBit_7_C (s : State) : Result := .next (bitReg 7 .C s)
def execBit_7_D (s : State) : Result := .next (bitReg 7 .D s)
def execBit_7_E (s : State) : Result := .next (bitReg 7 .E s)
def execBit_7_H (s : State) : Result := .next (bitReg 7 .H s)
def execBit_7_L (s : State) : Result := .next (bitReg 7 .L s)
def execBit_7_A (s : State) : Result := .next (bitReg 7 .A s)

/-! 44_rotate_shift_bit.md R211 -/

def execBit_0_atHL (s : State) : Result := .next (bitHL 0 s)
def execBit_1_atHL (s : State) : Result := .next (bitHL 1 s)
def execBit_2_atHL (s : State) : Result := .next (bitHL 2 s)
def execBit_3_atHL (s : State) : Result := .next (bitHL 3 s)
def execBit_4_atHL (s : State) : Result := .next (bitHL 4 s)
def execBit_5_atHL (s : State) : Result := .next (bitHL 5 s)
def execBit_6_atHL (s : State) : Result := .next (bitHL 6 s)
def execBit_7_atHL (s : State) : Result := .next (bitHL 7 s)

/-! 44_rotate_shift_bit.md R212 -/

def execRes_0_B (s : State) : Result := .next (resReg 0 .B s)
def execRes_0_C (s : State) : Result := .next (resReg 0 .C s)
def execRes_0_D (s : State) : Result := .next (resReg 0 .D s)
def execRes_0_E (s : State) : Result := .next (resReg 0 .E s)
def execRes_0_H (s : State) : Result := .next (resReg 0 .H s)
def execRes_0_L (s : State) : Result := .next (resReg 0 .L s)
def execRes_0_A (s : State) : Result := .next (resReg 0 .A s)
def execRes_1_B (s : State) : Result := .next (resReg 1 .B s)
def execRes_1_C (s : State) : Result := .next (resReg 1 .C s)
def execRes_1_D (s : State) : Result := .next (resReg 1 .D s)
def execRes_1_E (s : State) : Result := .next (resReg 1 .E s)
def execRes_1_H (s : State) : Result := .next (resReg 1 .H s)
def execRes_1_L (s : State) : Result := .next (resReg 1 .L s)
def execRes_1_A (s : State) : Result := .next (resReg 1 .A s)
def execRes_2_B (s : State) : Result := .next (resReg 2 .B s)
def execRes_2_C (s : State) : Result := .next (resReg 2 .C s)
def execRes_2_D (s : State) : Result := .next (resReg 2 .D s)
def execRes_2_E (s : State) : Result := .next (resReg 2 .E s)
def execRes_2_H (s : State) : Result := .next (resReg 2 .H s)
def execRes_2_L (s : State) : Result := .next (resReg 2 .L s)
def execRes_2_A (s : State) : Result := .next (resReg 2 .A s)
def execRes_3_B (s : State) : Result := .next (resReg 3 .B s)
def execRes_3_C (s : State) : Result := .next (resReg 3 .C s)
def execRes_3_D (s : State) : Result := .next (resReg 3 .D s)
def execRes_3_E (s : State) : Result := .next (resReg 3 .E s)
def execRes_3_H (s : State) : Result := .next (resReg 3 .H s)
def execRes_3_L (s : State) : Result := .next (resReg 3 .L s)
def execRes_3_A (s : State) : Result := .next (resReg 3 .A s)
def execRes_4_B (s : State) : Result := .next (resReg 4 .B s)
def execRes_4_C (s : State) : Result := .next (resReg 4 .C s)
def execRes_4_D (s : State) : Result := .next (resReg 4 .D s)
def execRes_4_E (s : State) : Result := .next (resReg 4 .E s)
def execRes_4_H (s : State) : Result := .next (resReg 4 .H s)
def execRes_4_L (s : State) : Result := .next (resReg 4 .L s)
def execRes_4_A (s : State) : Result := .next (resReg 4 .A s)
def execRes_5_B (s : State) : Result := .next (resReg 5 .B s)
def execRes_5_C (s : State) : Result := .next (resReg 5 .C s)
def execRes_5_D (s : State) : Result := .next (resReg 5 .D s)
def execRes_5_E (s : State) : Result := .next (resReg 5 .E s)
def execRes_5_H (s : State) : Result := .next (resReg 5 .H s)
def execRes_5_L (s : State) : Result := .next (resReg 5 .L s)
def execRes_5_A (s : State) : Result := .next (resReg 5 .A s)
def execRes_6_B (s : State) : Result := .next (resReg 6 .B s)
def execRes_6_C (s : State) : Result := .next (resReg 6 .C s)
def execRes_6_D (s : State) : Result := .next (resReg 6 .D s)
def execRes_6_E (s : State) : Result := .next (resReg 6 .E s)
def execRes_6_H (s : State) : Result := .next (resReg 6 .H s)
def execRes_6_L (s : State) : Result := .next (resReg 6 .L s)
def execRes_6_A (s : State) : Result := .next (resReg 6 .A s)
def execRes_7_B (s : State) : Result := .next (resReg 7 .B s)
def execRes_7_C (s : State) : Result := .next (resReg 7 .C s)
def execRes_7_D (s : State) : Result := .next (resReg 7 .D s)
def execRes_7_E (s : State) : Result := .next (resReg 7 .E s)
def execRes_7_H (s : State) : Result := .next (resReg 7 .H s)
def execRes_7_L (s : State) : Result := .next (resReg 7 .L s)
def execRes_7_A (s : State) : Result := .next (resReg 7 .A s)

/-! 44_rotate_shift_bit.md R213 -/

def execRes_0_atHL (s : State) : Result := .next (resHL 0 s)
def execRes_1_atHL (s : State) : Result := .next (resHL 1 s)
def execRes_2_atHL (s : State) : Result := .next (resHL 2 s)
def execRes_3_atHL (s : State) : Result := .next (resHL 3 s)
def execRes_4_atHL (s : State) : Result := .next (resHL 4 s)
def execRes_5_atHL (s : State) : Result := .next (resHL 5 s)
def execRes_6_atHL (s : State) : Result := .next (resHL 6 s)
def execRes_7_atHL (s : State) : Result := .next (resHL 7 s)

/-! 44_rotate_shift_bit.md R214 -/

def execSet_0_B (s : State) : Result := .next (setReg 0 .B s)
def execSet_0_C (s : State) : Result := .next (setReg 0 .C s)
def execSet_0_D (s : State) : Result := .next (setReg 0 .D s)
def execSet_0_E (s : State) : Result := .next (setReg 0 .E s)
def execSet_0_H (s : State) : Result := .next (setReg 0 .H s)
def execSet_0_L (s : State) : Result := .next (setReg 0 .L s)
def execSet_0_A (s : State) : Result := .next (setReg 0 .A s)
def execSet_1_B (s : State) : Result := .next (setReg 1 .B s)
def execSet_1_C (s : State) : Result := .next (setReg 1 .C s)
def execSet_1_D (s : State) : Result := .next (setReg 1 .D s)
def execSet_1_E (s : State) : Result := .next (setReg 1 .E s)
def execSet_1_H (s : State) : Result := .next (setReg 1 .H s)
def execSet_1_L (s : State) : Result := .next (setReg 1 .L s)
def execSet_1_A (s : State) : Result := .next (setReg 1 .A s)
def execSet_2_B (s : State) : Result := .next (setReg 2 .B s)
def execSet_2_C (s : State) : Result := .next (setReg 2 .C s)
def execSet_2_D (s : State) : Result := .next (setReg 2 .D s)
def execSet_2_E (s : State) : Result := .next (setReg 2 .E s)
def execSet_2_H (s : State) : Result := .next (setReg 2 .H s)
def execSet_2_L (s : State) : Result := .next (setReg 2 .L s)
def execSet_2_A (s : State) : Result := .next (setReg 2 .A s)
def execSet_3_B (s : State) : Result := .next (setReg 3 .B s)
def execSet_3_C (s : State) : Result := .next (setReg 3 .C s)
def execSet_3_D (s : State) : Result := .next (setReg 3 .D s)
def execSet_3_E (s : State) : Result := .next (setReg 3 .E s)
def execSet_3_H (s : State) : Result := .next (setReg 3 .H s)
def execSet_3_L (s : State) : Result := .next (setReg 3 .L s)
def execSet_3_A (s : State) : Result := .next (setReg 3 .A s)
def execSet_4_B (s : State) : Result := .next (setReg 4 .B s)
def execSet_4_C (s : State) : Result := .next (setReg 4 .C s)
def execSet_4_D (s : State) : Result := .next (setReg 4 .D s)
def execSet_4_E (s : State) : Result := .next (setReg 4 .E s)
def execSet_4_H (s : State) : Result := .next (setReg 4 .H s)
def execSet_4_L (s : State) : Result := .next (setReg 4 .L s)
def execSet_4_A (s : State) : Result := .next (setReg 4 .A s)
def execSet_5_B (s : State) : Result := .next (setReg 5 .B s)
def execSet_5_C (s : State) : Result := .next (setReg 5 .C s)
def execSet_5_D (s : State) : Result := .next (setReg 5 .D s)
def execSet_5_E (s : State) : Result := .next (setReg 5 .E s)
def execSet_5_H (s : State) : Result := .next (setReg 5 .H s)
def execSet_5_L (s : State) : Result := .next (setReg 5 .L s)
def execSet_5_A (s : State) : Result := .next (setReg 5 .A s)
def execSet_6_B (s : State) : Result := .next (setReg 6 .B s)
def execSet_6_C (s : State) : Result := .next (setReg 6 .C s)
def execSet_6_D (s : State) : Result := .next (setReg 6 .D s)
def execSet_6_E (s : State) : Result := .next (setReg 6 .E s)
def execSet_6_H (s : State) : Result := .next (setReg 6 .H s)
def execSet_6_L (s : State) : Result := .next (setReg 6 .L s)
def execSet_6_A (s : State) : Result := .next (setReg 6 .A s)
def execSet_7_B (s : State) : Result := .next (setReg 7 .B s)
def execSet_7_C (s : State) : Result := .next (setReg 7 .C s)
def execSet_7_D (s : State) : Result := .next (setReg 7 .D s)
def execSet_7_E (s : State) : Result := .next (setReg 7 .E s)
def execSet_7_H (s : State) : Result := .next (setReg 7 .H s)
def execSet_7_L (s : State) : Result := .next (setReg 7 .L s)
def execSet_7_A (s : State) : Result := .next (setReg 7 .A s)

/-! 44_rotate_shift_bit.md R215 -/

def execSet_0_atHL (s : State) : Result := .next (setHL 0 s)
def execSet_1_atHL (s : State) : Result := .next (setHL 1 s)
def execSet_2_atHL (s : State) : Result := .next (setHL 2 s)
def execSet_3_atHL (s : State) : Result := .next (setHL 3 s)
def execSet_4_atHL (s : State) : Result := .next (setHL 4 s)
def execSet_5_atHL (s : State) : Result := .next (setHL 5 s)
def execSet_6_atHL (s : State) : Result := .next (setHL 6 s)
def execSet_7_atHL (s : State) : Result := .next (setHL 7 s)

/-! 46_misc.md R254 -/

def execCbPrefix (opcode2 : Byte) (s : State) : Result := .next (runCB opcode2 s)

end Sys2Proof.Machine
end

