-- ==== Sys2Proof/WellFormed.lean ====
section
/-! DEFINITION. Which terms of `Instr` are instructions that a word of memory can hold. Operand fields need no check:
register, pair, condition, bit and target numbers are in the constructors, and operand bytes take every value (R75). -/

namespace Sys2Proof

/-- The CB byte is a table row but "not an instruction": it "cannot be executed alone" and has no encoding of its own
apart from those of the CB table (R77, R254; log 6). Every other row is well formed; a base value with no entry is the
one byte that raises DecodeError (R80). -/
def Form.wellFormed : Form → Bool
  | .cbPrefix _ => false
  | .ld_r_r _ _ | .ld_r_d8 _ _ | .ld_r_atHL _ | .ld_atHL_r _ | .ld_atHL_d8 _ | .ld_A_at _ | .ld_at_A _
  | .ld_A_atA16 _ | .ld_atA16_A _ | .ldh_A_atA8 _ | .ldh_atA8_A _ | .ldh_A_atC | .ldh_atC_A
  | .ld_rr_d16 _ _ | .ld_atA16_SP _ | .ld_SP_HL | .ld_HL_SPe8 _ | .push _ | .pop _
  | .alu_r _ _ | .alu_atHL _ | .alu_d8 _ _ | .inc_r _ | .inc_atHL | .dec_r _ | .dec_atHL
  | .daa | .cpl | .scf | .ccf | .add_HL_rr _ | .inc_rr _ | .dec_rr _ | .add_SP_e8 _
  | .rlca | .rla | .rrca | .rra | .rot_r _ _ | .rot_atHL _
  | .bit_b_r _ _ | .bit_b_atHL _ | .res_b_r _ _ | .res_b_atHL _ | .set_b_r _ _ | .set_b_atHL _
  | .jp _ | .jp_cc _ _ | .jp_HL | .jr _ | .jr_cc _ _ | .call _ | .call_cc _ _ | .ret | .ret_cc _ | .reti | .rst _
  | .nop | .halt | .di | .ei | .noEntry _ => true

def Instr.wellFormed (i : Instr) : Bool := i.form.wellFormed

end Sys2Proof
end

