-- ==== Sys2Proof/Decode.lean ====
section
/-! DEFINITION. The InstructionTable (30_encoding.md R78, R79, R81, R85), the decoder that looks instructions up in it
(R70, R75, R76, R77), and the encoder, written from the bit patterns of R78 and R79. -/

namespace Sys2Proof

/-- The per-flag effect classes (R81). -/
inductive FlagEffect where
  | set | clear | computed | unaffected
  deriving DecidableEq, Repr

/-- One effect for each of Z, N, H, C (R81). -/
structure FlagEffects where
  z : FlagEffect
  n : FlagEffect
  h : FlagEffect
  c : FlagEffect
  deriving DecidableEq, Repr

/-- The informative cycle counts, taken and not taken (R297). Nothing reads them (log 12). -/
structure Cycles where
  taken : Nat
  notTaken : Nat
  deriving DecidableEq, Repr

/-- The addressing mode of an entry: which bytes follow the opcode byte, and the instruction they make (R70, R75).
`cb` is the CB byte: one more byte, which selects an entry of the CB table (R77). -/
inductive OperandMode where
  | none (i : Instr)
  | d8 (f : Byte → Instr)
  | e8 (f : Byte → Instr)
  | a8 (f : Byte → Instr)
  | d16 (f : Word → Instr)
  | a16 (f : Word → Instr)
  | cb

/-- The operand byte count of an entry (R81); for the CB byte, the byte `opcode2` (R77). -/
def OperandMode.byteCount : OperandMode → Nat
  | .none _ => 0
  | .d8 _ | .e8 _ | .a8 _ | .cb => 1
  | .d16 _ | .a16 _ => 2

/-- An entry of the InstructionTable (R81). Where the table gives no flags and no cycles, for the CB byte and the
values with no entry, the field is `none` (R85). -/
structure Entry where
  mnemonic : String
  mode : OperandMode
  cycles : Option Cycles
  flags : Option FlagEffects

def cy (k : Nat) : Option Cycles := some ⟨k, k⟩
def cy2 (taken notTaken : Nat) : Option Cycles := some ⟨taken, notTaken⟩

/-! The effect strings of the table, in the order Z N H C: `K` computed, `1` set, `0` clear, `U` unaffected (R85). -/

def fxUUUU : Option FlagEffects := some ⟨.unaffected, .unaffected, .unaffected, .unaffected⟩
def fxK0KU : Option FlagEffects := some ⟨.computed, .clear, .computed, .unaffected⟩
def fxK1KU : Option FlagEffects := some ⟨.computed, .set, .computed, .unaffected⟩
def fx000K : Option FlagEffects := some ⟨.clear, .clear, .clear, .computed⟩
def fxU0KK : Option FlagEffects := some ⟨.unaffected, .clear, .computed, .computed⟩
def fxKU0K : Option FlagEffects := some ⟨.computed, .unaffected, .clear, .computed⟩
def fxU11U : Option FlagEffects := some ⟨.unaffected, .set, .set, .unaffected⟩
def fxU001 : Option FlagEffects := some ⟨.unaffected, .clear, .clear, .set⟩
def fxU00K : Option FlagEffects := some ⟨.unaffected, .clear, .clear, .computed⟩
def fxK0KK : Option FlagEffects := some ⟨.computed, .clear, .computed, .computed⟩
def fxK1KK : Option FlagEffects := some ⟨.computed, .set, .computed, .computed⟩
def fxK010 : Option FlagEffects := some ⟨.computed, .clear, .set, .clear⟩
def fxK000 : Option FlagEffects := some ⟨.computed, .clear, .clear, .clear⟩
def fx00KK : Option FlagEffects := some ⟨.clear, .clear, .computed, .computed⟩
def fxKKKK : Option FlagEffects := some ⟨.computed, .computed, .computed, .computed⟩
def fxK00K : Option FlagEffects := some ⟨.computed, .clear, .clear, .computed⟩
def fxK01U : Option FlagEffects := some ⟨.computed, .clear, .set, .unaffected⟩

/-- Base table, 0x00 to 0x0F (R78). -/
def baseRow0 : List Entry := [
  ⟨"NOP", .none .nop, cy 4, fxUUUU⟩,
  ⟨"LD BC,d16", .d16 .ld_BC_d16, cy 12, fxUUUU⟩,
  ⟨"LD [BC],A", .none .ld_atBC_A, cy 8, fxUUUU⟩,
  ⟨"INC BC", .none .inc_BC, cy 8, fxUUUU⟩,
  ⟨"INC B", .none .inc_B, cy 4, fxK0KU⟩,
  ⟨"DEC B", .none .dec_B, cy 4, fxK1KU⟩,
  ⟨"LD B,d8", .d8 .ld_B_d8, cy 8, fxUUUU⟩,
  ⟨"RLCA", .none .rlca, cy 4, fx000K⟩,
  ⟨"LD [a16],SP", .a16 .ld_atA16_SP, cy 20, fxUUUU⟩,
  ⟨"ADD HL,BC", .none .add_HL_BC, cy 8, fxU0KK⟩,
  ⟨"LD A,[BC]", .none .ld_A_atBC, cy 8, fxUUUU⟩,
  ⟨"DEC BC", .none .dec_BC, cy 8, fxUUUU⟩,
  ⟨"INC C", .none .inc_C, cy 4, fxK0KU⟩,
  ⟨"DEC C", .none .dec_C, cy 4, fxK1KU⟩,
  ⟨"LD C,d8", .d8 .ld_C_d8, cy 8, fxUUUU⟩,
  ⟨"RRCA", .none .rrca, cy 4, fx000K⟩]

/-- Base table, 0x10 to 0x1F (R78). -/
def baseRow1 : List Entry := [
  ⟨"(no entry; STOP on the SM83)", .none .no_entry_10, none, none⟩,
  ⟨"LD DE,d16", .d16 .ld_DE_d16, cy 12, fxUUUU⟩,
  ⟨"LD [DE],A", .none .ld_atDE_A, cy 8, fxUUUU⟩,
  ⟨"INC DE", .none .inc_DE, cy 8, fxUUUU⟩,
  ⟨"INC D", .none .inc_D, cy 4, fxK0KU⟩,
  ⟨"DEC D", .none .dec_D, cy 4, fxK1KU⟩,
  ⟨"LD D,d8", .d8 .ld_D_d8, cy 8, fxUUUU⟩,
  ⟨"RLA", .none .rla, cy 4, fx000K⟩,
  ⟨"JR e8", .e8 .jr_e8, cy 12, fxUUUU⟩,
  ⟨"ADD HL,DE", .none .add_HL_DE, cy 8, fxU0KK⟩,
  ⟨"LD A,[DE]", .none .ld_A_atDE, cy 8, fxUUUU⟩,
  ⟨"DEC DE", .none .dec_DE, cy 8, fxUUUU⟩,
  ⟨"INC E", .none .inc_E, cy 4, fxK0KU⟩,
  ⟨"DEC E", .none .dec_E, cy 4, fxK1KU⟩,
  ⟨"LD E,d8", .d8 .ld_E_d8, cy 8, fxUUUU⟩,
  ⟨"RRA", .none .rra, cy 4, fx000K⟩]

/-- Base table, 0x20 to 0x2F (R78). -/
def baseRow2 : List Entry := [
  ⟨"JR NZ,e8", .e8 .jr_NZ_e8, cy2 12 8, fxUUUU⟩,
  ⟨"LD HL,d16", .d16 .ld_HL_d16, cy 12, fxUUUU⟩,
  ⟨"LD [HL+],A", .none .ld_atHLinc_A, cy 8, fxUUUU⟩,
  ⟨"INC HL", .none .inc_HL, cy 8, fxUUUU⟩,
  ⟨"INC H", .none .inc_H, cy 4, fxK0KU⟩,
  ⟨"DEC H", .none .dec_H, cy 4, fxK1KU⟩,
  ⟨"LD H,d8", .d8 .ld_H_d8, cy 8, fxUUUU⟩,
  ⟨"DAA", .none .daa, cy 4, fxKU0K⟩,
  ⟨"JR Z,e8", .e8 .jr_Z_e8, cy2 12 8, fxUUUU⟩,
  ⟨"ADD HL,HL", .none .add_HL_HL, cy 8, fxU0KK⟩,
  ⟨"LD A,[HL+]", .none .ld_A_atHLinc, cy 8, fxUUUU⟩,
  ⟨"DEC HL", .none .dec_HL, cy 8, fxUUUU⟩,
  ⟨"INC L", .none .inc_L, cy 4, fxK0KU⟩,
  ⟨"DEC L", .none .dec_L, cy 4, fxK1KU⟩,
  ⟨"LD L,d8", .d8 .ld_L_d8, cy 8, fxUUUU⟩,
  ⟨"CPL", .none .cpl, cy 4, fxU11U⟩]

/-- Base table, 0x30 to 0x3F (R78). -/
def baseRow3 : List Entry := [
  ⟨"JR NC,e8", .e8 .jr_NC_e8, cy2 12 8, fxUUUU⟩,
  ⟨"LD SP,d16", .d16 .ld_SP_d16, cy 12, fxUUUU⟩,
  ⟨"LD [HL-],A", .none .ld_atHLdec_A, cy 8, fxUUUU⟩,
  ⟨"INC SP", .none .inc_SP, cy 8, fxUUUU⟩,
  ⟨"INC [HL]", .none .inc_atHL, cy 12, fxK0KU⟩,
  ⟨"DEC [HL]", .none .dec_atHL, cy 12, fxK1KU⟩,
  ⟨"LD [HL],d8", .d8 .ld_atHL_d8, cy 12, fxUUUU⟩,
  ⟨"SCF", .none .scf, cy 4, fxU001⟩,
  ⟨"JR C,e8", .e8 .jr_C_e8, cy2 12 8, fxUUUU⟩,
  ⟨"ADD HL,SP", .none .add_HL_SP, cy 8, fxU0KK⟩,
  ⟨"LD A,[HL-]", .none .ld_A_atHLdec, cy 8, fxUUUU⟩,
  ⟨"DEC SP", .none .dec_SP, cy 8, fxUUUU⟩,
  ⟨"INC A", .none .inc_A, cy 4, fxK0KU⟩,
  ⟨"DEC A", .none .dec_A, cy 4, fxK1KU⟩,
  ⟨"LD A,d8", .d8 .ld_A_d8, cy 8, fxUUUU⟩,
  ⟨"CCF", .none .ccf, cy 4, fxU00K⟩]

/-- Base table, 0x40 to 0x4F (R78). -/
def baseRow4 : List Entry := [
  ⟨"LD B,B", .none .ld_B_B, cy 4, fxUUUU⟩,
  ⟨"LD B,C", .none .ld_B_C, cy 4, fxUUUU⟩,
  ⟨"LD B,D", .none .ld_B_D, cy 4, fxUUUU⟩,
  ⟨"LD B,E", .none .ld_B_E, cy 4, fxUUUU⟩,
  ⟨"LD B,H", .none .ld_B_H, cy 4, fxUUUU⟩,
  ⟨"LD B,L", .none .ld_B_L, cy 4, fxUUUU⟩,
  ⟨"LD B,[HL]", .none .ld_B_atHL, cy 8, fxUUUU⟩,
  ⟨"LD B,A", .none .ld_B_A, cy 4, fxUUUU⟩,
  ⟨"LD C,B", .none .ld_C_B, cy 4, fxUUUU⟩,
  ⟨"LD C,C", .none .ld_C_C, cy 4, fxUUUU⟩,
  ⟨"LD C,D", .none .ld_C_D, cy 4, fxUUUU⟩,
  ⟨"LD C,E", .none .ld_C_E, cy 4, fxUUUU⟩,
  ⟨"LD C,H", .none .ld_C_H, cy 4, fxUUUU⟩,
  ⟨"LD C,L", .none .ld_C_L, cy 4, fxUUUU⟩,
  ⟨"LD C,[HL]", .none .ld_C_atHL, cy 8, fxUUUU⟩,
  ⟨"LD C,A", .none .ld_C_A, cy 4, fxUUUU⟩]

/-- Base table, 0x50 to 0x5F (R78). -/
def baseRow5 : List Entry := [
  ⟨"LD D,B", .none .ld_D_B, cy 4, fxUUUU⟩,
  ⟨"LD D,C", .none .ld_D_C, cy 4, fxUUUU⟩,
  ⟨"LD D,D", .none .ld_D_D, cy 4, fxUUUU⟩,
  ⟨"LD D,E", .none .ld_D_E, cy 4, fxUUUU⟩,
  ⟨"LD D,H", .none .ld_D_H, cy 4, fxUUUU⟩,
  ⟨"LD D,L", .none .ld_D_L, cy 4, fxUUUU⟩,
  ⟨"LD D,[HL]", .none .ld_D_atHL, cy 8, fxUUUU⟩,
  ⟨"LD D,A", .none .ld_D_A, cy 4, fxUUUU⟩,
  ⟨"LD E,B", .none .ld_E_B, cy 4, fxUUUU⟩,
  ⟨"LD E,C", .none .ld_E_C, cy 4, fxUUUU⟩,
  ⟨"LD E,D", .none .ld_E_D, cy 4, fxUUUU⟩,
  ⟨"LD E,E", .none .ld_E_E, cy 4, fxUUUU⟩,
  ⟨"LD E,H", .none .ld_E_H, cy 4, fxUUUU⟩,
  ⟨"LD E,L", .none .ld_E_L, cy 4, fxUUUU⟩,
  ⟨"LD E,[HL]", .none .ld_E_atHL, cy 8, fxUUUU⟩,
  ⟨"LD E,A", .none .ld_E_A, cy 4, fxUUUU⟩]

/-- Base table, 0x60 to 0x6F (R78). -/
def baseRow6 : List Entry := [
  ⟨"LD H,B", .none .ld_H_B, cy 4, fxUUUU⟩,
  ⟨"LD H,C", .none .ld_H_C, cy 4, fxUUUU⟩,
  ⟨"LD H,D", .none .ld_H_D, cy 4, fxUUUU⟩,
  ⟨"LD H,E", .none .ld_H_E, cy 4, fxUUUU⟩,
  ⟨"LD H,H", .none .ld_H_H, cy 4, fxUUUU⟩,
  ⟨"LD H,L", .none .ld_H_L, cy 4, fxUUUU⟩,
  ⟨"LD H,[HL]", .none .ld_H_atHL, cy 8, fxUUUU⟩,
  ⟨"LD H,A", .none .ld_H_A, cy 4, fxUUUU⟩,
  ⟨"LD L,B", .none .ld_L_B, cy 4, fxUUUU⟩,
  ⟨"LD L,C", .none .ld_L_C, cy 4, fxUUUU⟩,
  ⟨"LD L,D", .none .ld_L_D, cy 4, fxUUUU⟩,
  ⟨"LD L,E", .none .ld_L_E, cy 4, fxUUUU⟩,
  ⟨"LD L,H", .none .ld_L_H, cy 4, fxUUUU⟩,
  ⟨"LD L,L", .none .ld_L_L, cy 4, fxUUUU⟩,
  ⟨"LD L,[HL]", .none .ld_L_atHL, cy 8, fxUUUU⟩,
  ⟨"LD L,A", .none .ld_L_A, cy 4, fxUUUU⟩]

/-- Base table, 0x70 to 0x7F (R78). -/
def baseRow7 : List Entry := [
  ⟨"LD [HL],B", .none .ld_atHL_B, cy 8, fxUUUU⟩,
  ⟨"LD [HL],C", .none .ld_atHL_C, cy 8, fxUUUU⟩,
  ⟨"LD [HL],D", .none .ld_atHL_D, cy 8, fxUUUU⟩,
  ⟨"LD [HL],E", .none .ld_atHL_E, cy 8, fxUUUU⟩,
  ⟨"LD [HL],H", .none .ld_atHL_H, cy 8, fxUUUU⟩,
  ⟨"LD [HL],L", .none .ld_atHL_L, cy 8, fxUUUU⟩,
  ⟨"HALT", .none .halt, cy 4, fxUUUU⟩,
  ⟨"LD [HL],A", .none .ld_atHL_A, cy 8, fxUUUU⟩,
  ⟨"LD A,B", .none .ld_A_B, cy 4, fxUUUU⟩,
  ⟨"LD A,C", .none .ld_A_C, cy 4, fxUUUU⟩,
  ⟨"LD A,D", .none .ld_A_D, cy 4, fxUUUU⟩,
  ⟨"LD A,E", .none .ld_A_E, cy 4, fxUUUU⟩,
  ⟨"LD A,H", .none .ld_A_H, cy 4, fxUUUU⟩,
  ⟨"LD A,L", .none .ld_A_L, cy 4, fxUUUU⟩,
  ⟨"LD A,[HL]", .none .ld_A_atHL, cy 8, fxUUUU⟩,
  ⟨"LD A,A", .none .ld_A_A, cy 4, fxUUUU⟩]

/-- Base table, 0x80 to 0x8F (R78). -/
def baseRow8 : List Entry := [
  ⟨"ADD A,B", .none .add_A_B, cy 4, fxK0KK⟩,
  ⟨"ADD A,C", .none .add_A_C, cy 4, fxK0KK⟩,
  ⟨"ADD A,D", .none .add_A_D, cy 4, fxK0KK⟩,
  ⟨"ADD A,E", .none .add_A_E, cy 4, fxK0KK⟩,
  ⟨"ADD A,H", .none .add_A_H, cy 4, fxK0KK⟩,
  ⟨"ADD A,L", .none .add_A_L, cy 4, fxK0KK⟩,
  ⟨"ADD A,[HL]", .none .add_A_atHL, cy 8, fxK0KK⟩,
  ⟨"ADD A,A", .none .add_A_A, cy 4, fxK0KK⟩,
  ⟨"ADC A,B", .none .adc_A_B, cy 4, fxK0KK⟩,
  ⟨"ADC A,C", .none .adc_A_C, cy 4, fxK0KK⟩,
  ⟨"ADC A,D", .none .adc_A_D, cy 4, fxK0KK⟩,
  ⟨"ADC A,E", .none .adc_A_E, cy 4, fxK0KK⟩,
  ⟨"ADC A,H", .none .adc_A_H, cy 4, fxK0KK⟩,
  ⟨"ADC A,L", .none .adc_A_L, cy 4, fxK0KK⟩,
  ⟨"ADC A,[HL]", .none .adc_A_atHL, cy 8, fxK0KK⟩,
  ⟨"ADC A,A", .none .adc_A_A, cy 4, fxK0KK⟩]

/-- Base table, 0x90 to 0x9F (R78). -/
def baseRow9 : List Entry := [
  ⟨"SUB B", .none .sub_B, cy 4, fxK1KK⟩,
  ⟨"SUB C", .none .sub_C, cy 4, fxK1KK⟩,
  ⟨"SUB D", .none .sub_D, cy 4, fxK1KK⟩,
  ⟨"SUB E", .none .sub_E, cy 4, fxK1KK⟩,
  ⟨"SUB H", .none .sub_H, cy 4, fxK1KK⟩,
  ⟨"SUB L", .none .sub_L, cy 4, fxK1KK⟩,
  ⟨"SUB [HL]", .none .sub_atHL, cy 8, fxK1KK⟩,
  ⟨"SUB A", .none .sub_A, cy 4, fxK1KK⟩,
  ⟨"SBC A,B", .none .sbc_A_B, cy 4, fxK1KK⟩,
  ⟨"SBC A,C", .none .sbc_A_C, cy 4, fxK1KK⟩,
  ⟨"SBC A,D", .none .sbc_A_D, cy 4, fxK1KK⟩,
  ⟨"SBC A,E", .none .sbc_A_E, cy 4, fxK1KK⟩,
  ⟨"SBC A,H", .none .sbc_A_H, cy 4, fxK1KK⟩,
  ⟨"SBC A,L", .none .sbc_A_L, cy 4, fxK1KK⟩,
  ⟨"SBC A,[HL]", .none .sbc_A_atHL, cy 8, fxK1KK⟩,
  ⟨"SBC A,A", .none .sbc_A_A, cy 4, fxK1KK⟩]

/-- Base table, 0xA0 to 0xAF (R78). -/
def baseRowA : List Entry := [
  ⟨"AND B", .none .and_B, cy 4, fxK010⟩,
  ⟨"AND C", .none .and_C, cy 4, fxK010⟩,
  ⟨"AND D", .none .and_D, cy 4, fxK010⟩,
  ⟨"AND E", .none .and_E, cy 4, fxK010⟩,
  ⟨"AND H", .none .and_H, cy 4, fxK010⟩,
  ⟨"AND L", .none .and_L, cy 4, fxK010⟩,
  ⟨"AND [HL]", .none .and_atHL, cy 8, fxK010⟩,
  ⟨"AND A", .none .and_A, cy 4, fxK010⟩,
  ⟨"XOR B", .none .xor_B, cy 4, fxK000⟩,
  ⟨"XOR C", .none .xor_C, cy 4, fxK000⟩,
  ⟨"XOR D", .none .xor_D, cy 4, fxK000⟩,
  ⟨"XOR E", .none .xor_E, cy 4, fxK000⟩,
  ⟨"XOR H", .none .xor_H, cy 4, fxK000⟩,
  ⟨"XOR L", .none .xor_L, cy 4, fxK000⟩,
  ⟨"XOR [HL]", .none .xor_atHL, cy 8, fxK000⟩,
  ⟨"XOR A", .none .xor_A, cy 4, fxK000⟩]

/-- Base table, 0xB0 to 0xBF (R78). -/
def baseRowB : List Entry := [
  ⟨"OR B", .none .or_B, cy 4, fxK000⟩,
  ⟨"OR C", .none .or_C, cy 4, fxK000⟩,
  ⟨"OR D", .none .or_D, cy 4, fxK000⟩,
  ⟨"OR E", .none .or_E, cy 4, fxK000⟩,
  ⟨"OR H", .none .or_H, cy 4, fxK000⟩,
  ⟨"OR L", .none .or_L, cy 4, fxK000⟩,
  ⟨"OR [HL]", .none .or_atHL, cy 8, fxK000⟩,
  ⟨"OR A", .none .or_A, cy 4, fxK000⟩,
  ⟨"CP B", .none .cp_B, cy 4, fxK1KK⟩,
  ⟨"CP C", .none .cp_C, cy 4, fxK1KK⟩,
  ⟨"CP D", .none .cp_D, cy 4, fxK1KK⟩,
  ⟨"CP E", .none .cp_E, cy 4, fxK1KK⟩,
  ⟨"CP H", .none .cp_H, cy 4, fxK1KK⟩,
  ⟨"CP L", .none .cp_L, cy 4, fxK1KK⟩,
  ⟨"CP [HL]", .none .cp_atHL, cy 8, fxK1KK⟩,
  ⟨"CP A", .none .cp_A, cy 4, fxK1KK⟩]

/-- Base table, 0xC0 to 0xCF (R78). -/
def baseRowC : List Entry := [
  ⟨"RET NZ", .none .ret_NZ, cy2 20 8, fxUUUU⟩,
  ⟨"POP BC", .none .pop_BC, cy 12, fxUUUU⟩,
  ⟨"JP NZ,a16", .a16 .jp_NZ_a16, cy2 16 12, fxUUUU⟩,
  ⟨"JP a16", .a16 .jp_a16, cy 16, fxUUUU⟩,
  ⟨"CALL NZ,a16", .a16 .call_NZ_a16, cy2 24 12, fxUUUU⟩,
  ⟨"PUSH BC", .none .push_BC, cy 16, fxUUUU⟩,
  ⟨"ADD A,d8", .d8 .add_A_d8, cy 8, fxK0KK⟩,
  ⟨"RST 0x00", .none .rst_00, cy 16, fxUUUU⟩,
  ⟨"RET Z", .none .ret_Z, cy2 20 8, fxUUUU⟩,
  ⟨"RET", .none .ret, cy 16, fxUUUU⟩,
  ⟨"JP Z,a16", .a16 .jp_Z_a16, cy2 16 12, fxUUUU⟩,
  ⟨"PREFIX CB", .cb, none, none⟩,
  ⟨"CALL Z,a16", .a16 .call_Z_a16, cy2 24 12, fxUUUU⟩,
  ⟨"CALL a16", .a16 .call_a16, cy 24, fxUUUU⟩,
  ⟨"ADC A,d8", .d8 .adc_A_d8, cy 8, fxK0KK⟩,
  ⟨"RST 0x08", .none .rst_08, cy 16, fxUUUU⟩]

/-- Base table, 0xD0 to 0xDF (R78). -/
def baseRowD : List Entry := [
  ⟨"RET NC", .none .ret_NC, cy2 20 8, fxUUUU⟩,
  ⟨"POP DE", .none .pop_DE, cy 12, fxUUUU⟩,
  ⟨"JP NC,a16", .a16 .jp_NC_a16, cy2 16 12, fxUUUU⟩,
  ⟨"(no entry)", .none .no_entry_D3, none, none⟩,
  ⟨"CALL NC,a16", .a16 .call_NC_a16, cy2 24 12, fxUUUU⟩,
  ⟨"PUSH DE", .none .push_DE, cy 16, fxUUUU⟩,
  ⟨"SUB d8", .d8 .sub_d8, cy 8, fxK1KK⟩,
  ⟨"RST 0x10", .none .rst_10, cy 16, fxUUUU⟩,
  ⟨"RET C", .none .ret_C, cy2 20 8, fxUUUU⟩,
  ⟨"RETI", .none .reti, cy 16, fxUUUU⟩,
  ⟨"JP C,a16", .a16 .jp_C_a16, cy2 16 12, fxUUUU⟩,
  ⟨"(no entry)", .none .no_entry_DB, none, none⟩,
  ⟨"CALL C,a16", .a16 .call_C_a16, cy2 24 12, fxUUUU⟩,
  ⟨"(no entry)", .none .no_entry_DD, none, none⟩,
  ⟨"SBC A,d8", .d8 .sbc_A_d8, cy 8, fxK1KK⟩,
  ⟨"RST 0x18", .none .rst_18, cy 16, fxUUUU⟩]

/-- Base table, 0xE0 to 0xEF (R78). -/
def baseRowE : List Entry := [
  ⟨"LDH [a8],A", .a8 .ldh_atA8_A, cy 12, fxUUUU⟩,
  ⟨"POP HL", .none .pop_HL, cy 12, fxUUUU⟩,
  ⟨"LDH [C],A", .none .ldh_atC_A, cy 8, fxUUUU⟩,
  ⟨"(no entry)", .none .no_entry_E3, none, none⟩,
  ⟨"(no entry)", .none .no_entry_E4, none, none⟩,
  ⟨"PUSH HL", .none .push_HL, cy 16, fxUUUU⟩,
  ⟨"AND d8", .d8 .and_d8, cy 8, fxK010⟩,
  ⟨"RST 0x20", .none .rst_20, cy 16, fxUUUU⟩,
  ⟨"ADD SP,e8", .e8 .add_SP_e8, cy 16, fx00KK⟩,
  ⟨"JP HL", .none .jp_HL, cy 4, fxUUUU⟩,
  ⟨"LD [a16],A", .a16 .ld_atA16_A, cy 16, fxUUUU⟩,
  ⟨"(no entry)", .none .no_entry_EB, none, none⟩,
  ⟨"(no entry)", .none .no_entry_EC, none, none⟩,
  ⟨"(no entry)", .none .no_entry_ED, none, none⟩,
  ⟨"XOR d8", .d8 .xor_d8, cy 8, fxK000⟩,
  ⟨"RST 0x28", .none .rst_28, cy 16, fxUUUU⟩]

/-- Base table, 0xF0 to 0xFF (R78). -/
def baseRowF : List Entry := [
  ⟨"LDH A,[a8]", .a8 .ldh_A_atA8, cy 12, fxUUUU⟩,
  ⟨"POP AF", .none .pop_AF, cy 12, fxKKKK⟩,
  ⟨"LDH A,[C]", .none .ldh_A_atC, cy 8, fxUUUU⟩,
  ⟨"DI", .none .di, cy 4, fxUUUU⟩,
  ⟨"(no entry)", .none .no_entry_F4, none, none⟩,
  ⟨"PUSH AF", .none .push_AF, cy 16, fxUUUU⟩,
  ⟨"OR d8", .d8 .or_d8, cy 8, fxK000⟩,
  ⟨"RST 0x30", .none .rst_30, cy 16, fxUUUU⟩,
  ⟨"LD HL,SP+e8", .e8 .ld_HL_SPe8, cy 12, fx00KK⟩,
  ⟨"LD SP,HL", .none .ld_SP_HL, cy 8, fxUUUU⟩,
  ⟨"LD A,[a16]", .a16 .ld_A_atA16, cy 16, fxUUUU⟩,
  ⟨"EI", .none .ei, cy 4, fxUUUU⟩,
  ⟨"(no entry)", .none .no_entry_FC, none, none⟩,
  ⟨"(no entry)", .none .no_entry_FD, none, none⟩,
  ⟨"CP d8", .d8 .cp_d8, cy 8, fxK1KK⟩,
  ⟨"RST 0x38", .none .rst_38, cy 16, fxUUUU⟩]

/-- The base table as a grid: row by high hex digit, column by low (R78). -/
def baseGrid : List (List Entry) :=
  [baseRow0, baseRow1, baseRow2, baseRow3, baseRow4, baseRow5, baseRow6, baseRow7,
   baseRow8, baseRow9, baseRowA, baseRowB, baseRowC, baseRowD, baseRowE, baseRowF]

/-- CB table, 0x00 to 0x0F (R79). -/
def cbRow0 : List Entry := [
  ⟨"RLC B", .none .rlc_B, cy 8, fxK00K⟩,
  ⟨"RLC C", .none .rlc_C, cy 8, fxK00K⟩,
  ⟨"RLC D", .none .rlc_D, cy 8, fxK00K⟩,
  ⟨"RLC E", .none .rlc_E, cy 8, fxK00K⟩,
  ⟨"RLC H", .none .rlc_H, cy 8, fxK00K⟩,
  ⟨"RLC L", .none .rlc_L, cy 8, fxK00K⟩,
  ⟨"RLC [HL]", .none .rlc_atHL, cy 16, fxK00K⟩,
  ⟨"RLC A", .none .rlc_A, cy 8, fxK00K⟩,
  ⟨"RRC B", .none .rrc_B, cy 8, fxK00K⟩,
  ⟨"RRC C", .none .rrc_C, cy 8, fxK00K⟩,
  ⟨"RRC D", .none .rrc_D, cy 8, fxK00K⟩,
  ⟨"RRC E", .none .rrc_E, cy 8, fxK00K⟩,
  ⟨"RRC H", .none .rrc_H, cy 8, fxK00K⟩,
  ⟨"RRC L", .none .rrc_L, cy 8, fxK00K⟩,
  ⟨"RRC [HL]", .none .rrc_atHL, cy 16, fxK00K⟩,
  ⟨"RRC A", .none .rrc_A, cy 8, fxK00K⟩]

/-- CB table, 0x10 to 0x1F (R79). -/
def cbRow1 : List Entry := [
  ⟨"RL B", .none .rl_B, cy 8, fxK00K⟩,
  ⟨"RL C", .none .rl_C, cy 8, fxK00K⟩,
  ⟨"RL D", .none .rl_D, cy 8, fxK00K⟩,
  ⟨"RL E", .none .rl_E, cy 8, fxK00K⟩,
  ⟨"RL H", .none .rl_H, cy 8, fxK00K⟩,
  ⟨"RL L", .none .rl_L, cy 8, fxK00K⟩,
  ⟨"RL [HL]", .none .rl_atHL, cy 16, fxK00K⟩,
  ⟨"RL A", .none .rl_A, cy 8, fxK00K⟩,
  ⟨"RR B", .none .rr_B, cy 8, fxK00K⟩,
  ⟨"RR C", .none .rr_C, cy 8, fxK00K⟩,
  ⟨"RR D", .none .rr_D, cy 8, fxK00K⟩,
  ⟨"RR E", .none .rr_E, cy 8, fxK00K⟩,
  ⟨"RR H", .none .rr_H, cy 8, fxK00K⟩,
  ⟨"RR L", .none .rr_L, cy 8, fxK00K⟩,
  ⟨"RR [HL]", .none .rr_atHL, cy 16, fxK00K⟩,
  ⟨"RR A", .none .rr_A, cy 8, fxK00K⟩]

/-- CB table, 0x20 to 0x2F (R79). -/
def cbRow2 : List Entry := [
  ⟨"SLA B", .none .sla_B, cy 8, fxK00K⟩,
  ⟨"SLA C", .none .sla_C, cy 8, fxK00K⟩,
  ⟨"SLA D", .none .sla_D, cy 8, fxK00K⟩,
  ⟨"SLA E", .none .sla_E, cy 8, fxK00K⟩,
  ⟨"SLA H", .none .sla_H, cy 8, fxK00K⟩,
  ⟨"SLA L", .none .sla_L, cy 8, fxK00K⟩,
  ⟨"SLA [HL]", .none .sla_atHL, cy 16, fxK00K⟩,
  ⟨"SLA A", .none .sla_A, cy 8, fxK00K⟩,
  ⟨"SRA B", .none .sra_B, cy 8, fxK00K⟩,
  ⟨"SRA C", .none .sra_C, cy 8, fxK00K⟩,
  ⟨"SRA D", .none .sra_D, cy 8, fxK00K⟩,
  ⟨"SRA E", .none .sra_E, cy 8, fxK00K⟩,
  ⟨"SRA H", .none .sra_H, cy 8, fxK00K⟩,
  ⟨"SRA L", .none .sra_L, cy 8, fxK00K⟩,
  ⟨"SRA [HL]", .none .sra_atHL, cy 16, fxK00K⟩,
  ⟨"SRA A", .none .sra_A, cy 8, fxK00K⟩]

/-- CB table, 0x30 to 0x3F (R79). -/
def cbRow3 : List Entry := [
  ⟨"SWAP B", .none .swap_B, cy 8, fxK000⟩,
  ⟨"SWAP C", .none .swap_C, cy 8, fxK000⟩,
  ⟨"SWAP D", .none .swap_D, cy 8, fxK000⟩,
  ⟨"SWAP E", .none .swap_E, cy 8, fxK000⟩,
  ⟨"SWAP H", .none .swap_H, cy 8, fxK000⟩,
  ⟨"SWAP L", .none .swap_L, cy 8, fxK000⟩,
  ⟨"SWAP [HL]", .none .swap_atHL, cy 16, fxK000⟩,
  ⟨"SWAP A", .none .swap_A, cy 8, fxK000⟩,
  ⟨"SRL B", .none .srl_B, cy 8, fxK00K⟩,
  ⟨"SRL C", .none .srl_C, cy 8, fxK00K⟩,
  ⟨"SRL D", .none .srl_D, cy 8, fxK00K⟩,
  ⟨"SRL E", .none .srl_E, cy 8, fxK00K⟩,
  ⟨"SRL H", .none .srl_H, cy 8, fxK00K⟩,
  ⟨"SRL L", .none .srl_L, cy 8, fxK00K⟩,
  ⟨"SRL [HL]", .none .srl_atHL, cy 16, fxK00K⟩,
  ⟨"SRL A", .none .srl_A, cy 8, fxK00K⟩]

/-- CB table, 0x40 to 0x4F (R79). -/
def cbRow4 : List Entry := [
  ⟨"BIT 0,B", .none .bit_0_B, cy 8, fxK01U⟩,
  ⟨"BIT 0,C", .none .bit_0_C, cy 8, fxK01U⟩,
  ⟨"BIT 0,D", .none .bit_0_D, cy 8, fxK01U⟩,
  ⟨"BIT 0,E", .none .bit_0_E, cy 8, fxK01U⟩,
  ⟨"BIT 0,H", .none .bit_0_H, cy 8, fxK01U⟩,
  ⟨"BIT 0,L", .none .bit_0_L, cy 8, fxK01U⟩,
  ⟨"BIT 0,[HL]", .none .bit_0_atHL, cy 12, fxK01U⟩,
  ⟨"BIT 0,A", .none .bit_0_A, cy 8, fxK01U⟩,
  ⟨"BIT 1,B", .none .bit_1_B, cy 8, fxK01U⟩,
  ⟨"BIT 1,C", .none .bit_1_C, cy 8, fxK01U⟩,
  ⟨"BIT 1,D", .none .bit_1_D, cy 8, fxK01U⟩,
  ⟨"BIT 1,E", .none .bit_1_E, cy 8, fxK01U⟩,
  ⟨"BIT 1,H", .none .bit_1_H, cy 8, fxK01U⟩,
  ⟨"BIT 1,L", .none .bit_1_L, cy 8, fxK01U⟩,
  ⟨"BIT 1,[HL]", .none .bit_1_atHL, cy 12, fxK01U⟩,
  ⟨"BIT 1,A", .none .bit_1_A, cy 8, fxK01U⟩]

/-- CB table, 0x50 to 0x5F (R79). -/
def cbRow5 : List Entry := [
  ⟨"BIT 2,B", .none .bit_2_B, cy 8, fxK01U⟩,
  ⟨"BIT 2,C", .none .bit_2_C, cy 8, fxK01U⟩,
  ⟨"BIT 2,D", .none .bit_2_D, cy 8, fxK01U⟩,
  ⟨"BIT 2,E", .none .bit_2_E, cy 8, fxK01U⟩,
  ⟨"BIT 2,H", .none .bit_2_H, cy 8, fxK01U⟩,
  ⟨"BIT 2,L", .none .bit_2_L, cy 8, fxK01U⟩,
  ⟨"BIT 2,[HL]", .none .bit_2_atHL, cy 12, fxK01U⟩,
  ⟨"BIT 2,A", .none .bit_2_A, cy 8, fxK01U⟩,
  ⟨"BIT 3,B", .none .bit_3_B, cy 8, fxK01U⟩,
  ⟨"BIT 3,C", .none .bit_3_C, cy 8, fxK01U⟩,
  ⟨"BIT 3,D", .none .bit_3_D, cy 8, fxK01U⟩,
  ⟨"BIT 3,E", .none .bit_3_E, cy 8, fxK01U⟩,
  ⟨"BIT 3,H", .none .bit_3_H, cy 8, fxK01U⟩,
  ⟨"BIT 3,L", .none .bit_3_L, cy 8, fxK01U⟩,
  ⟨"BIT 3,[HL]", .none .bit_3_atHL, cy 12, fxK01U⟩,
  ⟨"BIT 3,A", .none .bit_3_A, cy 8, fxK01U⟩]

/-- CB table, 0x60 to 0x6F (R79). -/
def cbRow6 : List Entry := [
  ⟨"BIT 4,B", .none .bit_4_B, cy 8, fxK01U⟩,
  ⟨"BIT 4,C", .none .bit_4_C, cy 8, fxK01U⟩,
  ⟨"BIT 4,D", .none .bit_4_D, cy 8, fxK01U⟩,
  ⟨"BIT 4,E", .none .bit_4_E, cy 8, fxK01U⟩,
  ⟨"BIT 4,H", .none .bit_4_H, cy 8, fxK01U⟩,
  ⟨"BIT 4,L", .none .bit_4_L, cy 8, fxK01U⟩,
  ⟨"BIT 4,[HL]", .none .bit_4_atHL, cy 12, fxK01U⟩,
  ⟨"BIT 4,A", .none .bit_4_A, cy 8, fxK01U⟩,
  ⟨"BIT 5,B", .none .bit_5_B, cy 8, fxK01U⟩,
  ⟨"BIT 5,C", .none .bit_5_C, cy 8, fxK01U⟩,
  ⟨"BIT 5,D", .none .bit_5_D, cy 8, fxK01U⟩,
  ⟨"BIT 5,E", .none .bit_5_E, cy 8, fxK01U⟩,
  ⟨"BIT 5,H", .none .bit_5_H, cy 8, fxK01U⟩,
  ⟨"BIT 5,L", .none .bit_5_L, cy 8, fxK01U⟩,
  ⟨"BIT 5,[HL]", .none .bit_5_atHL, cy 12, fxK01U⟩,
  ⟨"BIT 5,A", .none .bit_5_A, cy 8, fxK01U⟩]

/-- CB table, 0x70 to 0x7F (R79). -/
def cbRow7 : List Entry := [
  ⟨"BIT 6,B", .none .bit_6_B, cy 8, fxK01U⟩,
  ⟨"BIT 6,C", .none .bit_6_C, cy 8, fxK01U⟩,
  ⟨"BIT 6,D", .none .bit_6_D, cy 8, fxK01U⟩,
  ⟨"BIT 6,E", .none .bit_6_E, cy 8, fxK01U⟩,
  ⟨"BIT 6,H", .none .bit_6_H, cy 8, fxK01U⟩,
  ⟨"BIT 6,L", .none .bit_6_L, cy 8, fxK01U⟩,
  ⟨"BIT 6,[HL]", .none .bit_6_atHL, cy 12, fxK01U⟩,
  ⟨"BIT 6,A", .none .bit_6_A, cy 8, fxK01U⟩,
  ⟨"BIT 7,B", .none .bit_7_B, cy 8, fxK01U⟩,
  ⟨"BIT 7,C", .none .bit_7_C, cy 8, fxK01U⟩,
  ⟨"BIT 7,D", .none .bit_7_D, cy 8, fxK01U⟩,
  ⟨"BIT 7,E", .none .bit_7_E, cy 8, fxK01U⟩,
  ⟨"BIT 7,H", .none .bit_7_H, cy 8, fxK01U⟩,
  ⟨"BIT 7,L", .none .bit_7_L, cy 8, fxK01U⟩,
  ⟨"BIT 7,[HL]", .none .bit_7_atHL, cy 12, fxK01U⟩,
  ⟨"BIT 7,A", .none .bit_7_A, cy 8, fxK01U⟩]

/-- CB table, 0x80 to 0x8F (R79). -/
def cbRow8 : List Entry := [
  ⟨"RES 0,B", .none .res_0_B, cy 8, fxUUUU⟩,
  ⟨"RES 0,C", .none .res_0_C, cy 8, fxUUUU⟩,
  ⟨"RES 0,D", .none .res_0_D, cy 8, fxUUUU⟩,
  ⟨"RES 0,E", .none .res_0_E, cy 8, fxUUUU⟩,
  ⟨"RES 0,H", .none .res_0_H, cy 8, fxUUUU⟩,
  ⟨"RES 0,L", .none .res_0_L, cy 8, fxUUUU⟩,
  ⟨"RES 0,[HL]", .none .res_0_atHL, cy 16, fxUUUU⟩,
  ⟨"RES 0,A", .none .res_0_A, cy 8, fxUUUU⟩,
  ⟨"RES 1,B", .none .res_1_B, cy 8, fxUUUU⟩,
  ⟨"RES 1,C", .none .res_1_C, cy 8, fxUUUU⟩,
  ⟨"RES 1,D", .none .res_1_D, cy 8, fxUUUU⟩,
  ⟨"RES 1,E", .none .res_1_E, cy 8, fxUUUU⟩,
  ⟨"RES 1,H", .none .res_1_H, cy 8, fxUUUU⟩,
  ⟨"RES 1,L", .none .res_1_L, cy 8, fxUUUU⟩,
  ⟨"RES 1,[HL]", .none .res_1_atHL, cy 16, fxUUUU⟩,
  ⟨"RES 1,A", .none .res_1_A, cy 8, fxUUUU⟩]

/-- CB table, 0x90 to 0x9F (R79). -/
def cbRow9 : List Entry := [
  ⟨"RES 2,B", .none .res_2_B, cy 8, fxUUUU⟩,
  ⟨"RES 2,C", .none .res_2_C, cy 8, fxUUUU⟩,
  ⟨"RES 2,D", .none .res_2_D, cy 8, fxUUUU⟩,
  ⟨"RES 2,E", .none .res_2_E, cy 8, fxUUUU⟩,
  ⟨"RES 2,H", .none .res_2_H, cy 8, fxUUUU⟩,
  ⟨"RES 2,L", .none .res_2_L, cy 8, fxUUUU⟩,
  ⟨"RES 2,[HL]", .none .res_2_atHL, cy 16, fxUUUU⟩,
  ⟨"RES 2,A", .none .res_2_A, cy 8, fxUUUU⟩,
  ⟨"RES 3,B", .none .res_3_B, cy 8, fxUUUU⟩,
  ⟨"RES 3,C", .none .res_3_C, cy 8, fxUUUU⟩,
  ⟨"RES 3,D", .none .res_3_D, cy 8, fxUUUU⟩,
  ⟨"RES 3,E", .none .res_3_E, cy 8, fxUUUU⟩,
  ⟨"RES 3,H", .none .res_3_H, cy 8, fxUUUU⟩,
  ⟨"RES 3,L", .none .res_3_L, cy 8, fxUUUU⟩,
  ⟨"RES 3,[HL]", .none .res_3_atHL, cy 16, fxUUUU⟩,
  ⟨"RES 3,A", .none .res_3_A, cy 8, fxUUUU⟩]

/-- CB table, 0xA0 to 0xAF (R79). -/
def cbRowA : List Entry := [
  ⟨"RES 4,B", .none .res_4_B, cy 8, fxUUUU⟩,
  ⟨"RES 4,C", .none .res_4_C, cy 8, fxUUUU⟩,
  ⟨"RES 4,D", .none .res_4_D, cy 8, fxUUUU⟩,
  ⟨"RES 4,E", .none .res_4_E, cy 8, fxUUUU⟩,
  ⟨"RES 4,H", .none .res_4_H, cy 8, fxUUUU⟩,
  ⟨"RES 4,L", .none .res_4_L, cy 8, fxUUUU⟩,
  ⟨"RES 4,[HL]", .none .res_4_atHL, cy 16, fxUUUU⟩,
  ⟨"RES 4,A", .none .res_4_A, cy 8, fxUUUU⟩,
  ⟨"RES 5,B", .none .res_5_B, cy 8, fxUUUU⟩,
  ⟨"RES 5,C", .none .res_5_C, cy 8, fxUUUU⟩,
  ⟨"RES 5,D", .none .res_5_D, cy 8, fxUUUU⟩,
  ⟨"RES 5,E", .none .res_5_E, cy 8, fxUUUU⟩,
  ⟨"RES 5,H", .none .res_5_H, cy 8, fxUUUU⟩,
  ⟨"RES 5,L", .none .res_5_L, cy 8, fxUUUU⟩,
  ⟨"RES 5,[HL]", .none .res_5_atHL, cy 16, fxUUUU⟩,
  ⟨"RES 5,A", .none .res_5_A, cy 8, fxUUUU⟩]

/-- CB table, 0xB0 to 0xBF (R79). -/
def cbRowB : List Entry := [
  ⟨"RES 6,B", .none .res_6_B, cy 8, fxUUUU⟩,
  ⟨"RES 6,C", .none .res_6_C, cy 8, fxUUUU⟩,
  ⟨"RES 6,D", .none .res_6_D, cy 8, fxUUUU⟩,
  ⟨"RES 6,E", .none .res_6_E, cy 8, fxUUUU⟩,
  ⟨"RES 6,H", .none .res_6_H, cy 8, fxUUUU⟩,
  ⟨"RES 6,L", .none .res_6_L, cy 8, fxUUUU⟩,
  ⟨"RES 6,[HL]", .none .res_6_atHL, cy 16, fxUUUU⟩,
  ⟨"RES 6,A", .none .res_6_A, cy 8, fxUUUU⟩,
  ⟨"RES 7,B", .none .res_7_B, cy 8, fxUUUU⟩,
  ⟨"RES 7,C", .none .res_7_C, cy 8, fxUUUU⟩,
  ⟨"RES 7,D", .none .res_7_D, cy 8, fxUUUU⟩,
  ⟨"RES 7,E", .none .res_7_E, cy 8, fxUUUU⟩,
  ⟨"RES 7,H", .none .res_7_H, cy 8, fxUUUU⟩,
  ⟨"RES 7,L", .none .res_7_L, cy 8, fxUUUU⟩,
  ⟨"RES 7,[HL]", .none .res_7_atHL, cy 16, fxUUUU⟩,
  ⟨"RES 7,A", .none .res_7_A, cy 8, fxUUUU⟩]

/-- CB table, 0xC0 to 0xCF (R79). -/
def cbRowC : List Entry := [
  ⟨"SET 0,B", .none .set_0_B, cy 8, fxUUUU⟩,
  ⟨"SET 0,C", .none .set_0_C, cy 8, fxUUUU⟩,
  ⟨"SET 0,D", .none .set_0_D, cy 8, fxUUUU⟩,
  ⟨"SET 0,E", .none .set_0_E, cy 8, fxUUUU⟩,
  ⟨"SET 0,H", .none .set_0_H, cy 8, fxUUUU⟩,
  ⟨"SET 0,L", .none .set_0_L, cy 8, fxUUUU⟩,
  ⟨"SET 0,[HL]", .none .set_0_atHL, cy 16, fxUUUU⟩,
  ⟨"SET 0,A", .none .set_0_A, cy 8, fxUUUU⟩,
  ⟨"SET 1,B", .none .set_1_B, cy 8, fxUUUU⟩,
  ⟨"SET 1,C", .none .set_1_C, cy 8, fxUUUU⟩,
  ⟨"SET 1,D", .none .set_1_D, cy 8, fxUUUU⟩,
  ⟨"SET 1,E", .none .set_1_E, cy 8, fxUUUU⟩,
  ⟨"SET 1,H", .none .set_1_H, cy 8, fxUUUU⟩,
  ⟨"SET 1,L", .none .set_1_L, cy 8, fxUUUU⟩,
  ⟨"SET 1,[HL]", .none .set_1_atHL, cy 16, fxUUUU⟩,
  ⟨"SET 1,A", .none .set_1_A, cy 8, fxUUUU⟩]

/-- CB table, 0xD0 to 0xDF (R79). -/
def cbRowD : List Entry := [
  ⟨"SET 2,B", .none .set_2_B, cy 8, fxUUUU⟩,
  ⟨"SET 2,C", .none .set_2_C, cy 8, fxUUUU⟩,
  ⟨"SET 2,D", .none .set_2_D, cy 8, fxUUUU⟩,
  ⟨"SET 2,E", .none .set_2_E, cy 8, fxUUUU⟩,
  ⟨"SET 2,H", .none .set_2_H, cy 8, fxUUUU⟩,
  ⟨"SET 2,L", .none .set_2_L, cy 8, fxUUUU⟩,
  ⟨"SET 2,[HL]", .none .set_2_atHL, cy 16, fxUUUU⟩,
  ⟨"SET 2,A", .none .set_2_A, cy 8, fxUUUU⟩,
  ⟨"SET 3,B", .none .set_3_B, cy 8, fxUUUU⟩,
  ⟨"SET 3,C", .none .set_3_C, cy 8, fxUUUU⟩,
  ⟨"SET 3,D", .none .set_3_D, cy 8, fxUUUU⟩,
  ⟨"SET 3,E", .none .set_3_E, cy 8, fxUUUU⟩,
  ⟨"SET 3,H", .none .set_3_H, cy 8, fxUUUU⟩,
  ⟨"SET 3,L", .none .set_3_L, cy 8, fxUUUU⟩,
  ⟨"SET 3,[HL]", .none .set_3_atHL, cy 16, fxUUUU⟩,
  ⟨"SET 3,A", .none .set_3_A, cy 8, fxUUUU⟩]

/-- CB table, 0xE0 to 0xEF (R79). -/
def cbRowE : List Entry := [
  ⟨"SET 4,B", .none .set_4_B, cy 8, fxUUUU⟩,
  ⟨"SET 4,C", .none .set_4_C, cy 8, fxUUUU⟩,
  ⟨"SET 4,D", .none .set_4_D, cy 8, fxUUUU⟩,
  ⟨"SET 4,E", .none .set_4_E, cy 8, fxUUUU⟩,
  ⟨"SET 4,H", .none .set_4_H, cy 8, fxUUUU⟩,
  ⟨"SET 4,L", .none .set_4_L, cy 8, fxUUUU⟩,
  ⟨"SET 4,[HL]", .none .set_4_atHL, cy 16, fxUUUU⟩,
  ⟨"SET 4,A", .none .set_4_A, cy 8, fxUUUU⟩,
  ⟨"SET 5,B", .none .set_5_B, cy 8, fxUUUU⟩,
  ⟨"SET 5,C", .none .set_5_C, cy 8, fxUUUU⟩,
  ⟨"SET 5,D", .none .set_5_D, cy 8, fxUUUU⟩,
  ⟨"SET 5,E", .none .set_5_E, cy 8, fxUUUU⟩,
  ⟨"SET 5,H", .none .set_5_H, cy 8, fxUUUU⟩,
  ⟨"SET 5,L", .none .set_5_L, cy 8, fxUUUU⟩,
  ⟨"SET 5,[HL]", .none .set_5_atHL, cy 16, fxUUUU⟩,
  ⟨"SET 5,A", .none .set_5_A, cy 8, fxUUUU⟩]

/-- CB table, 0xF0 to 0xFF (R79). -/
def cbRowF : List Entry := [
  ⟨"SET 6,B", .none .set_6_B, cy 8, fxUUUU⟩,
  ⟨"SET 6,C", .none .set_6_C, cy 8, fxUUUU⟩,
  ⟨"SET 6,D", .none .set_6_D, cy 8, fxUUUU⟩,
  ⟨"SET 6,E", .none .set_6_E, cy 8, fxUUUU⟩,
  ⟨"SET 6,H", .none .set_6_H, cy 8, fxUUUU⟩,
  ⟨"SET 6,L", .none .set_6_L, cy 8, fxUUUU⟩,
  ⟨"SET 6,[HL]", .none .set_6_atHL, cy 16, fxUUUU⟩,
  ⟨"SET 6,A", .none .set_6_A, cy 8, fxUUUU⟩,
  ⟨"SET 7,B", .none .set_7_B, cy 8, fxUUUU⟩,
  ⟨"SET 7,C", .none .set_7_C, cy 8, fxUUUU⟩,
  ⟨"SET 7,D", .none .set_7_D, cy 8, fxUUUU⟩,
  ⟨"SET 7,E", .none .set_7_E, cy 8, fxUUUU⟩,
  ⟨"SET 7,H", .none .set_7_H, cy 8, fxUUUU⟩,
  ⟨"SET 7,L", .none .set_7_L, cy 8, fxUUUU⟩,
  ⟨"SET 7,[HL]", .none .set_7_atHL, cy 16, fxUUUU⟩,
  ⟨"SET 7,A", .none .set_7_A, cy 8, fxUUUU⟩]

/-- The CB table as a grid: row by high hex digit, column by low (R79). -/
def cbGrid : List (List Entry) :=
  [cbRow0, cbRow1, cbRow2, cbRow3, cbRow4, cbRow5, cbRow6, cbRow7,
   cbRow8, cbRow9, cbRowA, cbRowB, cbRowC, cbRowD, cbRowE, cbRowF]

/-- What a lookup outside a grid would answer; no byte reaches it. -/
def emptyEntry : Entry := ⟨"", .none .no_entry_10, none, none⟩

/-- `BaseTable[op]` (R76). -/
def baseEntry (op : Byte) : Entry := (baseGrid.getD (op.toNat / 16) []).getD (op.toNat % 16) emptyEntry

/-- `CBTable[op2]` (R76). -/
def cbEntry (op2 : Byte) : Entry := (cbGrid.getD (op2.toNat / 16) []).getD (op2.toNat % 16) emptyEntry

/-- The instruction of an entry that takes no operand byte, as every entry of the CB table is (R70, R79). -/
def Entry.plain (e : Entry) : Instr :=
  match e.mode with
  | .none i => i
  | .d8 _ | .e8 _ | .a8 _ | .d16 _ | .a16 _ | .cb => .no_entry_10

/-- The instruction that `opcode2` selects after the CB byte (R77, R79). -/
def cbInstr (op2 : Byte) : Instr := (cbEntry op2).plain

/-! ## The decoder -/

/-- Why a list of bytes holds no instruction. -/
inductive Reject where
  /-- The list ends before the instruction does. Memory never ends (R42), so a step never meets this. -/
  | truncated
  deriving DecidableEq, Repr

/-- Assemble the operand bytes, low byte first (R75), or take `opcode2` (R77). -/
def decodeOperands : OperandMode → List Byte → Except Reject (Instr × List Byte)
  | .none i, rest => .ok (i, rest)
  | .d8 f, n :: rest | .e8 f, n :: rest | .a8 f, n :: rest => .ok (f n, rest)
  | .d16 f, l :: h :: rest | .a16 f, l :: h :: rest => .ok (f (word h l), rest)
  | .cb, op2 :: rest => .ok (cbInstr op2, rest)
  | .d8 _, [] | .e8 _, [] | .a8 _, [] | .d16 _, [] | .d16 _, [_] | .a16 _, [] | .a16 _, [_] | .cb, [] => .error .truncated

/-- The instruction at the head of a list of bytes, and the bytes after it (R70, R76 steps 2 and 3). -/
def decode : List Byte → Except Reject (Instr × List Byte)
  | [] => .error .truncated
  | op :: rest => decodeOperands (baseEntry op).mode rest

/-! ## The encoder -/

/-- The byte with fields `x` (bits 7:6), `y` (bits 5:3), `z` (bits 2:0) (R71). -/
def opcode (x y z : Nat) : Byte := BitVec.ofNat 8 (64 * x + 8 * y + z)

/-- The bytes of each kind of instruction: the patterns of R78 and R79, and the operand bytes of R75. -/
def Form.encode : Form → List Byte
  | .nop => [opcode 0 0 0]
  | .ld_atA16_SP aa => [opcode 0 1 0, lo aa, hi aa]
  | .jr e => [opcode 0 3 0, e]
  | .jr_cc cc e => [opcode 0 (4 + cc.code) 0, e]
  | .ld_rr_d16 rr nn => [opcode 0 (2 * rr.code) 1, lo nn, hi nn]
  | .add_HL_rr rr => [opcode 0 (2 * rr.code + 1) 1]
  | .ld_at_A x => [opcode 0 (2 * x.code) 2]
  | .ld_A_at x => [opcode 0 (2 * x.code + 1) 2]
  | .inc_rr rr => [opcode 0 (2 * rr.code) 3]
  | .dec_rr rr => [opcode 0 (2 * rr.code + 1) 3]
  | .inc_r r => [opcode 0 r.code 4]
  | .inc_atHL => [opcode 0 6 4]
  | .dec_r r => [opcode 0 r.code 5]
  | .dec_atHL => [opcode 0 6 5]
  | .ld_r_d8 d n => [opcode 0 d.code 6, n]
  | .ld_atHL_d8 n => [opcode 0 6 6, n]
  | .rlca => [opcode 0 0 7]
  | .rrca => [opcode 0 1 7]
  | .rla => [opcode 0 2 7]
  | .rra => [opcode 0 3 7]
  | .daa => [opcode 0 4 7]
  | .cpl => [opcode 0 5 7]
  | .scf => [opcode 0 6 7]
  | .ccf => [opcode 0 7 7]
  | .ld_r_r d s => [opcode 1 d.code s.code]
  | .ld_r_atHL d => [opcode 1 d.code 6]
  | .ld_atHL_r s => [opcode 1 6 s.code]
  | .halt => [opcode 1 6 6]
  | .alu_r op r => [opcode 2 op.code r.code]
  | .alu_atHL op => [opcode 2 op.code 6]
  | .ret_cc cc => [opcode 3 cc.code 0]
  | .ldh_atA8_A a => [opcode 3 4 0, a]
  | .add_SP_e8 e => [opcode 3 5 0, e]
  | .ldh_A_atA8 a => [opcode 3 6 0, a]
  | .ld_HL_SPe8 e => [opcode 3 7 0, e]
  | .pop rr => [opcode 3 (2 * rr.code) 1]
  | .ret => [opcode 3 1 1]
  | .reti => [opcode 3 3 1]
  | .jp_HL => [opcode 3 5 1]
  | .ld_SP_HL => [opcode 3 7 1]
  | .jp_cc cc aa => [opcode 3 cc.code 2, lo aa, hi aa]
  | .ldh_atC_A => [opcode 3 4 2]
  | .ld_atA16_A aa => [opcode 3 5 2, lo aa, hi aa]
  | .ldh_A_atC => [opcode 3 6 2]
  | .ld_A_atA16 aa => [opcode 3 7 2, lo aa, hi aa]
  | .jp aa => [opcode 3 0 3, lo aa, hi aa]
  | .di => [opcode 3 6 3]
  | .ei => [opcode 3 7 3]
  | .call_cc cc aa => [opcode 3 cc.code 4, lo aa, hi aa]
  | .push rr => [opcode 3 (2 * rr.code) 5]
  | .call aa => [opcode 3 1 5, lo aa, hi aa]
  | .alu_d8 op n => [opcode 3 op.code 6, n]
  | .rst t => [opcode 3 t.val 7]
  | .rot_r op r => [Config.cbByte, opcode 0 op.code r.code]
  | .rot_atHL op => [Config.cbByte, opcode 0 op.code 6]
  | .bit_b_r b r => [Config.cbByte, opcode 1 b.val r.code]
  | .bit_b_atHL b => [Config.cbByte, opcode 1 b.val 6]
  | .res_b_r b r => [Config.cbByte, opcode 2 b.val r.code]
  | .res_b_atHL b => [Config.cbByte, opcode 2 b.val 6]
  | .set_b_r b r => [Config.cbByte, opcode 3 b.val r.code]
  | .set_b_atHL b => [Config.cbByte, opcode 3 b.val 6]
  | .cbPrefix opcode2 => [Config.cbByte, opcode2]
  | .noEntry op => [op]

/-- The bytes of an instruction, lowest address first (R70). -/
def encode (i : Instr) : List Byte := i.form.encode

/-- The table entry of an instruction: by its opcode byte in the base table, or by `opcode2` in the CB table (R81). -/
def Instr.entry (i : Instr) : Entry :=
  match encode i with
  | [] => emptyEntry
  | [op] => baseEntry op
  | op :: op2 :: _ => if op = Config.cbByte then cbEntry op2 else baseEntry op

/-! ## The table's own bit numbers -/

/-- The bytes, in the order they lie in memory and with zeros up to three, of an instruction whose table bits are `w`.
The 8-bit rows are one byte. The 16-bit rows are all of the CB table, and the table writes them as the number
`byte0:byte1` with `byte0 = 0xCB` (R85); a number that has 0xCB in its low byte is read low byte first (log 8). -/
def tableBytes (nbits w : Nat) : List Byte :=
  let b0 := BitVec.ofNat 8 w
  let b1 := BitVec.ofNat 8 (w / 256)
  let b2 := BitVec.ofNat 8 (w / 65536)
  if nbits ≤ 8 then [b0, 0, 0]
  else if nbits ≤ 16 then (if b1 = Config.cbByte then [b1, b0, 0] else [b0, b1, 0])
  else [b0, b1, b2]

/-- What the decoder reads from a word numbered as spec/opcode_table.json numbers its rows. -/
def decodeTableWord (nbits w : Nat) : Option Instr :=
  match decode (tableBytes nbits w) with
  | .ok (i, _) => some i
  | .error _ => none

end Sys2Proof
end

