-- ==== Sys2Proof/Machine/Fetch.lean ====
section
/-! DEFINITION. Fetching an instruction (30_encoding.md R76 steps 2 and 3), and placing one where the fetch finds it. -/

namespace Sys2Proof.Machine

/-- The operand bytes an entry asks for, fetched one by one, PC advancing for each (R76 step 3, R75); for the CB byte,
`opcode2` (R76 step 2, R77). -/
def fetchOperands (mode : OperandMode) (s : State) : Instr × State :=
  match mode with
  | .none i => (i, s)
  | .d8 f | .e8 f | .a8 f =>
    let n := s.fetch8
    (f n.1, n.2)
  | .d16 f | .a16 f =>
    let l := s.fetch8
    let h := l.2.fetch8
    (f (word h.1 l.1), h.2)
  | .cb =>
    let op2 := s.fetch8
    (cbInstr op2.1, op2.2)

/-- Fetch the instruction at PC; PC ends past the whole of it (R15, R76). A value with no entry is one byte, and no
operand byte is fetched after it (R80). -/
def fetchInstr (s : State) : Instr × State :=
  let op := s.fetch8
  fetchOperands (baseEntry op.1).mode op.2

/-- The three bytes from PC on, as the bus gives them: as many as the longest instruction has (R70). -/
def State.bytesAtPC (s : State) : List Byte := [s.read s.pc, s.read (s.pc + 1), s.read (s.pc + 2)]

/-- Place bytes in the backing stores from an address on, as a loader does before a run (R290); the ROM's write
protection (R43) is the core's, and does not bind the loader. -/
def Memory.place (m : Memory) (addr : Word) : List Byte → Memory
  | [] => m
  | v :: rest => Memory.place (m.put addr v) (addr + 1) rest

/-- Whether the three addresses from `addr` on all have a store behind them. -/
def canHold3 (addr : Word) : Bool :=
  decide (region addr ≠ .unmapped) && decide (region (addr + 1) ≠ .unmapped) && decide (region (addr + 2) ≠ .unmapped)

/-- Where `State.withFetchWord` puts its instruction: at PC, or at `RESET_PC` where the bus has no store for it (log 3). -/
def fetchSlot (s : State) : Word := if canHold3 s.pc then s.pc else Config.resetPc

end Sys2Proof.Machine
end

