-- ==== Sys2Proof/Machine/Step.lean ====
section
/-! DEFINITION. One `step` (30_encoding.md R76). -/

namespace Sys2Proof.Machine

/-- Running: fetch, decode and execute one whole instruction. Halted or Stopped: nothing at all (R16, R76, R277). -/
def step (s : State) : Host.Outcome State Fault Refusal :=
  match s.execState with
  | .running => exec (fetchInstr s).1 (fetchInstr s).2
  | .halted => .next s
  | .stopped => .next s

/-- `s` with the instruction of a table word where `step` fetches it: its bytes in the stores at PC (at `RESET_PC`, with
PC there, where PC points at no store), and Running (log 3). -/
def State.withFetchWord (s : State) (nbits w : Nat) : State :=
  { s with
    mem := Memory.place s.mem (fetchSlot s) (tableBytes nbits w)
    pc := fetchSlot s
    execState := .running }

end Sys2Proof.Machine
end

