-- ==== Sys2Proof/Machine/Bus.lean ====
section
/-! DEFINITION. The bus accesses of one step, in order (20_memory.md R49, 30_encoding.md R76). They are not state: they are
read off the state that the step begins in (log 11). -/

namespace Sys2Proof.Machine

/-- One byte access: the byte a read returned, or the byte a write carries, whether or not a store takes it (R42, R43). -/
inductive BusAccess where
  | read (addr : Word) (v : Byte)
  | write (addr : Word) (v : Byte)
  deriving DecidableEq, Repr

/-- The addresses of the instruction bytes that a step fetches: the opcode byte, then `opcode2` or the operand bytes, the
lowest address first, whatever the instruction then does (R49 items 1 to 3). -/
def State.fetchReads (s : State) : List Word :=
  match (baseEntry (s.read s.pc)).mode.byteCount with
  | 0 => [s.pc]
  | 1 => [s.pc, s.pc + 1]
  | _ => [s.pc, s.pc + 1, s.pc + 2]

/-- The addresses that an instruction reads as data, in the order of its rule. `s` is the state that its meaning begins
in. The CB byte is not an instruction that is fetched as such (R77, log 6). -/
def State.dataReads (s : State) : Form → List Word
  | .ld_r_atHL _ | .alu_atHL _ | .inc_atHL | .dec_atHL | .rot_atHL _ | .bit_b_atHL _ | .res_b_atHL _ | .set_b_atHL _ =>
    [s.get16 .HL]
  | .ld_A_at x => [s.atAddr x]
  | .ld_A_atA16 aa => [aa]
  | .ldh_A_atA8 n => [highPageAddr n]
  | .ldh_A_atC => [highPageAddr (s.get8 .C)]
  | .pop _ | .ret | .reti => [s.sp, s.sp + 1]
  | .ret_cc cc => if s.cond cc then [s.sp, s.sp + 1] else []
  | .cbPrefix _ | .noEntry _ | .nop | .halt | .di | .ei => []
  | .ld_r_r _ _ | .ld_r_d8 _ _ | .ld_atHL_r _ | .ld_atHL_d8 _ | .ld_at_A _ | .ld_atA16_A _ | .ldh_atA8_A _ | .ldh_atC_A => []
  | .ld_rr_d16 _ _ | .ld_atA16_SP _ | .ld_SP_HL | .ld_HL_SPe8 _ | .push _ => []
  | .alu_r _ _ | .alu_d8 _ _ | .inc_r _ | .dec_r _ | .daa | .cpl | .scf | .ccf => []
  | .add_HL_rr _ | .inc_rr _ | .dec_rr _ | .add_SP_e8 _ => []
  | .rlca | .rla | .rrca | .rra | .rot_r _ _ | .bit_b_r _ _ | .res_b_r _ _ | .set_b_r _ _ => []
  | .jp _ | .jp_cc _ _ | .jp_HL | .jr _ | .jr_cc _ _ | .call _ | .call_cc _ _ | .rst _ => []

/-- The two writes of push16: the high byte, then the low byte (R47). -/
def State.pushWrites (s : State) (w : Word) : List (Word × Byte) := [(s.sp - 1, hi w), (s.sp - 2, lo w)]

/-- The bytes that an instruction writes to the bus, in the order of its rule, all of them after its reads (R49). -/
def State.dataWrites (s : State) : Form → List (Word × Byte)
  | .ld_atHL_r r => [(s.get16 .HL, s.getR r)]
  | .ld_atHL_d8 n => [(s.get16 .HL, n)]
  | .ld_at_A x => [(s.atAddr x, s.get8 .A)]
  | .ld_atA16_A aa => [(aa, s.get8 .A)]
  | .ldh_atA8_A n => [(highPageAddr n, s.get8 .A)]
  | .ldh_atC_A => [(highPageAddr (s.get8 .C), s.get8 .A)]
  | .ld_atA16_SP aa => [(aa, lo s.sp), (aa + 1, hi s.sp)]
  | .push rr => s.pushWrites (s.get16 rr.reg)
  | .inc_atHL => [(s.get16 .HL, (inc8 s.readHL).res)]
  | .dec_atHL => [(s.get16 .HL, (dec8 s.readHL).res)]
  | .rot_atHL op => [(s.get16 .HL, (rot8 op s.readHL (s.getFlag .C)).res)]
  | .res_b_atHL b => [(s.get16 .HL, resBit b s.readHL)]
  | .set_b_atHL b => [(s.get16 .HL, setBit b s.readHL)]
  | .call _ | .rst _ => s.pushWrites s.pc
  | .call_cc cc _ => if s.cond cc then s.pushWrites s.pc else []
  | .cbPrefix _ | .noEntry _ | .nop | .halt | .di | .ei => []
  | .ld_r_r _ _ | .ld_r_d8 _ _ | .ld_r_atHL _ | .ld_A_at _ | .ld_A_atA16 _ | .ldh_A_atA8 _ | .ldh_A_atC => []
  | .ld_rr_d16 _ _ | .ld_SP_HL | .ld_HL_SPe8 _ | .pop _ => []
  | .alu_r _ _ | .alu_atHL _ | .alu_d8 _ _ | .inc_r _ | .dec_r _ | .daa | .cpl | .scf | .ccf => []
  | .add_HL_rr _ | .inc_rr _ | .dec_rr _ | .add_SP_e8 _ => []
  | .rlca | .rla | .rrca | .rra | .rot_r _ _ | .bit_b_r _ _ | .bit_b_atHL _ | .res_b_r _ _ | .set_b_r _ _ => []
  | .jp _ | .jp_cc _ _ | .jp_HL | .jr _ | .jr_cc _ _ | .ret | .ret_cc _ | .reti => []

/-- The bus accesses of a Running step: what it fetches, what it reads, what it writes (R49). -/
def State.busOf (s : State) : List BusAccess :=
  let i := fetchInstr s
  (s.fetchReads ++ i.2.dataReads i.1.form).map (fun a => .read a (s.read a))
    ++ (i.2.dataWrites i.1.form).map fun x => .write x.1 x.2

/-- The bus accesses of one step; Halted or Stopped, there is none (R49, R76 step 1, R277). -/
def busTrace (s : State) : List BusAccess :=
  match s.execState with
  | .running => s.busOf
  | .halted => []
  | .stopped => []

/-- What a list of accesses does to the machine: its writes, one after another (R42, R43). -/
def State.replay (s : State) : List BusAccess → State
  | [] => s
  | .read _ _ :: rest => s.replay rest
  | .write a v :: rest => (s.write a v).replay rest

end Sys2Proof.Machine
end

