-- ==== Sys2Proof/Machine/Driver.lean ====
section
/-! DEFINITION. The driver's transactions (00_scope.md R5, 60_exceptions.md R260 to R278, 70_reset_and_hazards.md R290):
each is applied between steps, one at a time (R268). `step` of Machine/Step.lean is the `step` transaction with its
fault outcome; `Driver.step` below is the same transaction with the state a DecodeError leaves. -/

namespace Sys2Proof.Machine

/-- `RESET_REGS`: the registers whose values after reset the spec leaves to the driver (R4, R22, D2). -/
structure ResetRegs where
  a : Byte
  f : Byte
  b : Byte
  c : Byte
  d : Byte
  e : Byte
  h : Byte
  l : Byte
  sp : Word
  deriving DecidableEq, Repr

/-- The cells of a ROM image at `n` addresses from `p` on: those whose byte differs from `Config.romFill`. -/
def romCells (rom : Word → Byte) : Nat → Nat → Memory
  | 0, _ => []
  | n + 1, p =>
    if rom (BitVec.ofNat 16 p) = Config.romFill then romCells rom n (p + 1)
    else (p, rom (BitVec.ofNat 16 p)) :: romCells rom n (p + 1)

/-- `construct(ROM_IMAGE, RESET_REGS)` = reset (R290). Only the values of `rom` at 0x0000..0x3FFF matter. F takes its
high nibble (R12, R290). -/
def construct (rom : Word → Byte) (r : ResetRegs) : State where
  a := r.a
  f := r.f &&& 0xF0
  b := r.b
  c := r.c
  d := r.d
  e := r.e
  h := r.h
  l := r.l
  sp := r.sp
  pc := Config.resetPc
  execState := .running
  ime := false
  mem := romCells rom 0x4000 0
  log := []

/-- `wake`: Halted to Running, otherwise nothing; it is not remembered (R266, R278). -/
def wake (s : State) : State :=
  match s.execState with
  | .halted => { s with execState := .running }
  | .running => s
  | .stopped => s

/-- `stop_request`: Running or Halted to Stopped (R267, R278). -/
def stopRequest (s : State) : State :=
  match s.execState with
  | .running => { s with execState := .stopped }
  | .halted => { s with execState := .stopped }
  | .stopped => s

/-- What an inspection shows: ExecutorState, the RegisterFile (R10, R14, R15), the three stores and the warning log (R5,
R23, R276, D22). DESIGN CHOICE (log 15): IME is not among them. Those rules do not list it, and R17 says that a driver
cannot observe it. -/
structure Inspection where
  a : Byte
  f : Byte
  b : Byte
  c : Byte
  d : Byte
  e : Byte
  h : Byte
  l : Byte
  sp : Word
  pc : Word
  execState : ExecutorState
  mem : Memory
  log : List BusWarning
  deriving DecidableEq, Repr

/-- What the driver sees of a state between steps (R23, R276); IME is left out (log 15). -/
def State.inspect (s : State) : Inspection where
  a := s.a
  f := s.f
  b := s.b
  c := s.c
  d := s.d
  e := s.e
  h := s.h
  l := s.l
  sp := s.sp
  pc := s.pc
  execState := s.execState
  mem := s.mem
  log := s.log

/-- What a transaction answers to the driver (R5, R23, R261). No reply shows IME (R17, log 15). -/
inductive Reply where
  /-- nothing to say: `construct`, `wake`, `stop_request` -/
  | done
  /-- `step` returned Ok -/
  | ok
  /-- `step` returned DecodeError (R261) -/
  | decodeError (opcode : Byte) (address : Word)
  /-- `exec` has no meaning for the instruction; no arm of it says so now -/
  | refused (r : Refusal)
  /-- inspection (R5, R23, R276) -/
  | view (v : Inspection)
  deriving DecidableEq, Repr

/-- The `step` transaction as the driver sees it: its reply, and the state it leaves, after a DecodeError too (R261). -/
def Driver.step (s : State) : Reply × State :=
  match Sys2Proof.Machine.step s with
  | .next t => (.ok, t)
  | .fault (.decodeError op a0) => (.decodeError op a0, s.afterDecodeError)
  | .refused r => (.refused r, s)

/-- The transactions of R5. -/
inductive Transaction where
  | construct (rom : Word → Byte) (regs : ResetRegs)
  | step
  | wake
  | stopRequest
  | inspect

/-- Apply one transaction. `construct` is accepted in every state, and nothing survives it (R291). Inspection changes
nothing (R276). -/
def Driver.apply : Transaction → State → Reply × State
  | .construct rom regs, _ => (.done, Sys2Proof.Machine.construct rom regs)
  | .step, s => Driver.step s
  | .wake, s => (.done, Sys2Proof.Machine.wake s)
  | .stopRequest, s => (.done, Sys2Proof.Machine.stopRequest s)
  | .inspect, s => (.view s.inspect, s)

/-- Apply transactions in the order the driver issues them (R268). -/
def Driver.applyAll : List Transaction → State → State
  | [], s => s
  | t :: rest, s => Driver.applyAll rest (Driver.apply t s).2

end Sys2Proof.Machine
end

