-- ==== Sys2Proof/Safety.lean ====
section
/-! DEFINITION. The terms claims are stated in: the invariant, what ends a run, and what a meaning leaves unchanged. -/

namespace Sys2Proof.Machine

/-- The machine's invariant: memory in its canonical form, and `F[3:0] = 0` (R12). -/
structure State.Inv (s : State) : Prop where
  memory : s.mem.wf = true
  lowNibble : s.f &&& 0x0F = 0

/-- A final state: `step` leaves it unchanged and returns Ok (R296). -/
def State.Final (s : State) : Prop := step s = .next s

/-- A run of at most `k` steps from `s` meets no DecodeError (R296: a run faults when a step returns one). -/
def State.SafeFor (s : State) (k : Nat) : Prop :=
  ∀ r, Host.Core.run Sys2Proof.core k s ≠ .fault r

/-! ## Frames -/

/-- Every 8-bit register outside the list holds what it held (F among them). -/
def SameRegs (except : List Reg8) (s t : State) : Prop := ∀ r, r ∉ except → t.get8 r = s.get8 r

/-- Every flag outside the list is what it was, and so are bits 3 to 0 of F. -/
def SameFlags (except : List Flag) (s t : State) : Prop :=
  (∀ x, x ∉ except → t.getFlag x = s.getFlag x) ∧ t.f &&& 0x0F = s.f &&& 0x0F

/-- Every byte of the address space reads as before, and no warning is added. -/
def SameMemory (s t : State) : Prop := (∀ a, t.read a = s.read a) ∧ t.log = s.log

/-- SP, PC, ExecutorState and IME are what they were. `t` and `s` are the states around a meaning: PC stands past the
instruction in both. -/
def SameControl (s t : State) : Prop :=
  t.sp = s.sp ∧ t.pc = s.pc ∧ t.execState = s.execState ∧ t.ime = s.ime

/-- The warnings of one byte store at an address: none, or one record (R43, R262). -/
def warningsOf (a : Word) : List BusWarning :=
  match region a with
  | .vram => []
  | .wram => []
  | .rom => [⟨a, .writeToReadOnly⟩]
  | .unmapped => [⟨a, .writeUnmapped⟩]

/-- One byte store at `a`: where a store owns the address (VRAM, WRAM) it then reads `v` and nothing is logged; elsewhere
it reads as before and one warning with this address and the region's kind is appended; every other address reads as
before (R43, R262). -/
def StoresByte (a : Word) (v : Byte) (s t : State) : Prop :=
  t.read a = (if region a = .vram ∨ region a = .wram then v else s.read a) ∧
  (∀ b, b ≠ a → t.read b = s.read b) ∧
  t.log = s.log ++ warningsOf a

/-- Two byte stores, `v` at `a` and then `w` at `b`, with `a` and `b` different addresses: each as `StoresByte` says
(R46, R47, R131). -/
def StoresTwo (a : Word) (v : Byte) (b : Word) (w : Byte) (s t : State) : Prop :=
  t.read a = (if region a = .vram ∨ region a = .wram then v else s.read a) ∧
  t.read b = (if region b = .vram ∨ region b = .wram then w else s.read b) ∧
  (∀ x, x ≠ a → x ≠ b → t.read x = s.read x) ∧
  t.log = s.log ++ warningsOf a ++ warningsOf b

/-- ExecutorState and IME are what they were. -/
def SameMode (s t : State) : Prop := t.execState = s.execState ∧ t.ime = s.ime

/-! ## Which instructions may write what (R24)

Lists by kind of instruction. For the CB byte they are those of the instruction it selects, see `selected`. -/

/-- The kind of the instruction executed: for the CB byte with `opcode2`, that of `CBTable[opcode2]` (R77, R254). -/
def selected : Form → Form
  | .cbPrefix opcode2 => (cbInstr opcode2).form
  | f => f

/-- The 8-bit registers an instruction may write, F where it has flag effects (R24, R81). -/
def writesRegs : Form → List Reg8
  | .ld_r_r d _ | .ld_r_d8 d _ | .ld_r_atHL d | .res_b_r _ d | .set_b_r _ d => [d.reg]
  | .ld_A_at .BC | .ld_A_at .DE | .ld_A_atA16 _ | .ldh_A_atA8 _ | .ldh_A_atC => [.A]
  | .ld_A_at .HLinc | .ld_A_at .HLdec => [.A, .H, .L]
  | .ld_at_A .HLinc | .ld_at_A .HLdec => [.H, .L]
  | .ld_rr_d16 .BC _ | .inc_rr .BC | .dec_rr .BC | .pop .BC => [.B, .C]
  | .ld_rr_d16 .DE _ | .inc_rr .DE | .dec_rr .DE | .pop .DE => [.D, .E]
  | .ld_rr_d16 .HL _ | .inc_rr .HL | .dec_rr .HL | .pop .HL => [.H, .L]
  | .pop .AF => [.A, .F]
  | .ld_HL_SPe8 _ | .add_HL_rr _ => [.H, .L, .F]
  | .alu_r .cp _ | .alu_atHL .cp | .alu_d8 .cp _ => [.F]
  | .alu_r _ _ | .alu_atHL _ | .alu_d8 _ _ | .daa | .cpl | .rlca | .rla | .rrca | .rra => [.A, .F]
  | .inc_r r | .dec_r r | .rot_r _ r => [r.reg, .F]
  | .inc_atHL | .dec_atHL | .rot_atHL _ | .scf | .ccf | .add_SP_e8 _ | .bit_b_r _ _ | .bit_b_atHL _ => [.F]
  | _ => []

/-- The instructions that write SP (R24). -/
def writesSP : Form → Bool
  | .ld_rr_d16 .SP _ | .ld_SP_HL | .add_SP_e8 _ | .inc_rr .SP | .dec_rr .SP | .push _ | .pop _
  | .call _ | .call_cc _ _ | .ret | .ret_cc _ | .reti | .rst _ => true
  | _ => false

/-- The instructions that write PC other than by being fetched (R15, R24). -/
def writesPC : Form → Bool
  | .jp _ | .jp_cc _ _ | .jp_HL | .jr _ | .jr_cc _ _ | .call _ | .call_cc _ _ | .ret | .ret_cc _ | .reti | .rst _ => true
  | _ => false

/-- The instructions that write IME (R24, R265). -/
def writesIME : Form → Bool
  | .di | .ei | .reti => true
  | _ => false

/-- The instructions that issue a bus write (R104 to R119, R131, R134, R166, R168, R195 to R215, R226, R227, R231). -/
def writesBus : Form → Bool
  | .ld_atHL_r _ | .ld_atHL_d8 _ | .ld_at_A _ | .ld_atA16_A _ | .ldh_atA8_A _ | .ldh_atC_A | .ld_atA16_SP _ | .push _
  | .inc_atHL | .dec_atHL | .rot_atHL _ | .res_b_atHL _ | .set_b_atHL _ | .call _ | .call_cc _ _ | .rst _ => true
  | _ => false

/-! ## Encodings and operands as the rules write them -/

/-- Wherever these bytes begin, the decoder reads exactly them, and reads `i`. -/
def EncodedAs (i : Instr) (bytes : List Byte) : Prop := ∀ rest, decode (bytes ++ rest) = .ok (i, rest)

/-- The twelve base-table values with no entry (R80). -/
def noEntryOpcodes : List Byte := [0x10, 0xD3, 0xDB, 0xDD, 0xE3, 0xE4, 0xEB, 0xEC, 0xED, 0xF4, 0xFC, 0xFD]

/-- `i` is the ALU operation `op` on A and `v`: a register, the byte at HL, or an immediate byte, with the bytes that
R78 gives that form (R141 to R164). -/
def AluInstr (i : Instr) (op : AluOp) (s : State) (v : Byte) (bytes : List Byte) : Prop :=
  (∃ r, i.form = .alu_r op r ∧ v = s.getR r ∧ bytes = [BitVec.ofNat 8 (0x80 + 8 * op.code + r.code)]) ∨
  (i.form = .alu_atHL op ∧ v = s.read (s.get16 .HL) ∧ bytes = [BitVec.ofNat 8 (0x86 + 8 * op.code)]) ∨
  (i.form = .alu_d8 op v ∧ bytes = [BitVec.ofNat 8 (0xC6 + 8 * op.code), v])

/-- Bit `k` of the result of a rotate or shift, bit by bit (the table at the head of 44_rotate_shift_bit.md). -/
def rotatedBit (op : RotOp) (v : Byte) (cin : Bool) (k : Nat) : Bool :=
  match op with
  | .rlc => if k = 0 then v.getLsbD 7 else v.getLsbD (k - 1)
  | .rrc => if k = 7 then v.getLsbD 0 else v.getLsbD (k + 1)
  | .rl => if k = 0 then cin else v.getLsbD (k - 1)
  | .rr => if k = 7 then cin else v.getLsbD (k + 1)
  | .sla => if k = 0 then false else v.getLsbD (k - 1)
  | .sra => if k = 7 then v.getLsbD 7 else v.getLsbD (k + 1)
  | .swap => v.getLsbD ((k + 4) % 8)
  | .srl => if k = 7 then false else v.getLsbD (k + 1)

/-- The bit that a rotate or shift sends to the carry flag (same table). -/
def shiftedOutBit (op : RotOp) (v : Byte) : Bool :=
  match op with
  | .rlc | .rl | .sla => v.getLsbD 7
  | .rrc | .rr | .sra | .srl => v.getLsbD 0
  | .swap => false

/-- What a flag effect of the table says of a flag before and after: Set, Clear, Unaffected; Computed leaves it to the
instruction's rule (R81). -/
def EffectHolds (x : FlagEffect) (before after : Bool) : Prop :=
  match x with
  | .set => after = true
  | .clear => after = false
  | .unaffected => after = before
  | .computed => True

end Sys2Proof.Machine
end

