-- ==== Sys2Proof/Certificates/Slice0/Obligations.lean ====
section
/-! DEFINITION. The statements for the provers. In the statements about one kind of instruction, `s` and `t` are the
states around the instruction's own effect, with PC past its bytes in both (R15, R76 step 4); `StepRunsTheDecoded` puts
them into a step. `EncodedAs` says which bytes decode to it, and how many. -/

open Sys2Proof Sys2Proof.Machine

/-! ## Encoding -/

/-- Decoding the bytes of a well-formed instruction gives it back, with every operand, and leaves the bytes after it
(R70, R75, R77, R78, R79). The twelve values with no entry are among the instructions by log 7 (DESIGN CHOICE). -/
def Obligations.DecodeInvertsEncode : Prop :=
  ∀ (i : Instr) (rest : List Byte), i.wellFormed = true → decode (encode i ++ rest) = .ok (i, rest)

/-- Whatever bytes decode to an instruction are its encoding: one meaning a word, one word a meaning (R77, R78, R79).
The twelve values with no entry are among the instructions by log 7 (DESIGN CHOICE). -/
def Obligations.EncodeInvertsDecode : Prop :=
  ∀ (bytes rest : List Byte) (i : Instr), decode bytes = .ok (i, rest) → i.wellFormed = true ∧ bytes = encode i ++ rest

/-- A few words written out from the patterns of R78 and R79, one or more of each family. The last clause is no pattern of
the spec: R80 gives 0x10 no entry, and that it decodes to a constructor is the model's choice (log 7, DESIGN CHOICE). -/
def Obligations.SpecWordsDecode : Prop :=
  EncodedAs .nop [0b00000000] ∧
  EncodedAs (.ld_HL_d16 0xD000) [0b00100001, 0x00, 0xD0] ∧
  EncodedAs .ld_B_C [0b01000001] ∧
  EncodedAs .halt [0b01110110] ∧
  EncodedAs .sbc_A_E [0b10011011] ∧
  EncodedAs (.jr_e8 0xFE) [0b00011000, 0xFE] ∧
  EncodedAs (.call_NC_a16 0x1234) [0b11010100, 0x34, 0x12] ∧
  EncodedAs .push_AF [0b11110101] ∧
  EncodedAs .rst_38 [0b11111111] ∧
  EncodedAs .bit_6_atHL [0b11001011, 0b01110110] ∧
  EncodedAs .set_1_E [0b11001011, 0b11001011] ∧
  EncodedAs .swap_A [0b11001011, 0b00110111] ∧
  EncodedAs .no_entry_10 [0b00010000]

/-- The length of an instruction is decided by its first byte alone: 1, 2 or 3, and 2 for the CB byte (R70, R77). That each
of the twelve values with no entry decodes too, as a constructor of one byte, is the model's choice (log 7, DESIGN CHOICE):
R80 gives those values no instruction and no length. -/
def Obligations.FirstByteFixesLength : Prop :=
  ∀ op : Byte, ∃ n : Nat, n ≤ 2 ∧ (op = 0xCB → n = 1) ∧
    (∀ rest : List Byte, n ≤ rest.length → ∃ i, decode (op :: rest) = .ok (i, rest.drop n)) ∧
    (∀ rest : List Byte, rest.length < n → decode (op :: rest) = .error .truncated)

/-- A Running step runs the instruction that the bytes at PC decode to, with PC moved past its bytes (R15, R76). -/
def Obligations.StepRunsTheDecoded : Prop :=
  ∀ (s : State) (i : Instr) (rest : List Byte),
    s.execState = .running → decode s.bytesAtPC = .ok (i, rest) →
    step s = exec i { s with pc := s.pc + BitVec.ofNat 16 (3 - rest.length) }

/-- 0xCB in the opcode position selects `CBTable[opcode2]` in the same step, whatever `opcode2` is, and every one of the
256 values completes (R77, R79). The first clause's half about the constructor `cbPrefix` is the model's choice (log 6,
DESIGN CHOICE): the spec gives the CB byte's row no effect of its own (R77, R254). -/
def Obligations.CbByteSelectsSecondTable : Prop :=
  (∀ (op2 : Byte) (s : State), ∃ t, exec (.cbPrefix op2) s = .next t ∧ exec (cbInstr op2) s = .next t) ∧
  (∀ (op2 : Byte), EncodedAs (cbInstr op2) [0xCB, op2]) ∧
  (∀ s : State, s.execState = .running → s.read s.pc = 0xCB →
    step s = exec (cbInstr (s.read (s.pc + 1))) { s with pc := s.pc + 2 }) ∧
  cbInstr 0xCB = .set_1_E

/-! ## State -/

/-- The machine after reset meets the invariant (R12, R22; that memory is in canonical form is the model's, log 14). -/
def Obligations.InvariantAtReset : Prop := State.reset.Inv

/-- Every step keeps the invariant: `F[3:0] = 0` (R12) and the canonical form of memory (log 14). -/
def Obligations.StepKeepsInvariant : Prop :=
  ∀ s t : State, s.Inv → step s = .next t → t.Inv

/-- Every transaction of the driver keeps the invariant, a step that returns DecodeError included, and `construct`
establishes it from any state (R12 "in every state a driver can observe", R5, R290; canonical form: log 14). -/
def Obligations.TransactionsKeepInvariant : Prop :=
  (∀ (x : Transaction) (s : State), s.Inv → (Driver.apply x s).2.Inv) ∧
  (∀ (rom : Word → Byte) (r : ResetRegs) (s : State), (Driver.apply (.construct rom r) s).2.Inv) ∧
  (∀ (xs : List Transaction) (s : State), s.Inv → (Driver.applyAll xs s).Inv)

/-- Two memories in canonical form that read the same everywhere are equal data (R19, R42; log 14). -/
def Obligations.CanonicalMemoryIsUnique : Prop :=
  ∀ m n : Memory, m.wf = true → n.wf = true → (∀ a, m.get a = n.get a) → m = n

/-- What `construct` leaves, for every ROM image and every `RESET_REGS`, in every ExecutorState (R22, R290, R291). The
values of PC, IME and the log are the spec's decisions D1, D8, D14. -/
def Obligations.ConstructResets : Prop :=
  ∀ (rom : Word → Byte) (r : ResetRegs) (s : State), ∃ t, Driver.apply (.construct rom r) s = (.done, t) ∧
    t.pc = 0x0100 ∧ t.execState = .running ∧ t.ime = false ∧ t.log = [] ∧
    (t.a, t.b, t.c, t.d, t.e, t.h, t.l, t.sp) = (r.a, r.b, r.c, r.d, r.e, r.h, r.l, r.sp) ∧ t.f = r.f &&& 0xF0 ∧
    (∀ x : Word, x ≤ 0x3FFF → t.read x = rom x) ∧
    (∀ x : Word, (0x8000 ≤ x ∧ x ≤ 0x9FFF) ∨ (0xC000 ≤ x ∧ x ≤ 0xCFFF) → t.read x = 0x00)

/-- The pairs are aliases of the eight registers, the first-named register in bits 15:8; writing a half writes that
half alone, and writing a pair writes its two halves alone (R11; the mask on F: R12). -/
def Obligations.PairsAreHalves : Prop :=
  (∀ s : State,
    s.get16 .AF = s.get8 .A ++ s.get8 .F ∧ s.get16 .BC = s.get8 .B ++ s.get8 .C ∧
    s.get16 .DE = s.get8 .D ++ s.get8 .E ∧ s.get16 .HL = s.get8 .H ++ s.get8 .L) ∧
  (∀ (s : State) (r : Reg8) (v : Byte),
    (s.set8 r v).get8 r = (if r = .F then v &&& 0xF0 else v) ∧
    SameRegs [r] s (s.set8 r v) ∧ SameMemory s (s.set8 r v) ∧ SameControl s (s.set8 r v)) ∧
  (∀ (s : State) (w : Word) (p : Reg16) (x y : Reg8),
    (p, x, y) ∈ [(.AF, .A, .F), (.BC, .B, .C), (.DE, .D, .E), (.HL, .H, .L)] →
    (s.set16 p w).get8 x = w.extractLsb' 8 8 ∧
    (s.set16 p w).get8 y = (if y = .F then w.extractLsb' 0 8 &&& 0xF0 else w.extractLsb' 0 8) ∧
    SameRegs [x, y] s (s.set16 p w) ∧ SameMemory s (s.set16 p w) ∧ SameControl s (s.set16 p w))

/-- The flags are bits 7, 6, 5, 4 of F; setting one changes that bit alone (R12, R13). Which flag has which bit is the
spec's own decision D17 (log 13). -/
def Obligations.FlagsAreBitsOfF : Prop :=
  (∀ s : State, s.getFlag .Z = s.f.getLsbD 7 ∧ s.getFlag .N = s.f.getLsbD 6 ∧
    s.getFlag .H = s.f.getLsbD 5 ∧ s.getFlag .C = s.f.getLsbD 4) ∧
  (∀ (s : State) (x : Flag) (v : Bool),
    (s.setFlag x v).getFlag x = v ∧ SameFlags [x] s (s.setFlag x v) ∧ SameRegs [.F] s (s.setFlag x v) ∧
    SameMemory s (s.setFlag x v) ∧ SameControl s (s.setFlag x v))

/-- One byte write of the bus: stored in VRAM and WRAM, ignored with one BusWarning in ROM and in unmapped space, and
nothing else changes (R43). -/
def Obligations.BusWrite : Prop :=
  ∀ (s : State) (a : Word) (v : Byte),
    ((0x8000 ≤ a ∧ a ≤ 0x9FFF) ∨ (0xC000 ≤ a ∧ a ≤ 0xCFFF) →
      (s.write a v).read a = v ∧ (s.write a v).log = s.log) ∧
    (a ≤ 0x3FFF → (s.write a v).read a = s.read a ∧ (s.write a v).log = s.log ++ [⟨a, .writeToReadOnly⟩]) ∧
    ((0x4000 ≤ a ∧ a ≤ 0x7FFF) ∨ (0xA000 ≤ a ∧ a ≤ 0xBFFF) ∨ 0xD000 ≤ a →
      (s.write a v).read a = s.read a ∧ (s.write a v).log = s.log ++ [⟨a, .writeUnmapped⟩]) ∧
    (∀ b, b ≠ a → (s.write a v).read b = s.read b) ∧
    SameRegs [] s (s.write a v) ∧ SameControl s (s.write a v)

/-- push16 and pop16, and their round trip: SP is restored for every SP, the word where both stack addresses are in VRAM
or WRAM (R47, R48). -/
def Obligations.StackRoundTrip : Prop :=
  (∀ (s : State) (w : Word), (s.push16 w).sp = s.sp - 2 ∧ (s.push16 w).pc = s.pc ∧ SameMode s (s.push16 w) ∧
    SameRegs [] s (s.push16 w) ∧ StoresTwo (s.sp - 1) (w.extractLsb' 8 8) (s.sp - 2) (w.extractLsb' 0 8) s (s.push16 w)) ∧
  (∀ s : State, s.pop16.1 = s.read (s.sp + 1) ++ s.read s.sp ∧ s.pop16.2.sp = s.sp + 2 ∧ s.pop16.2.pc = s.pc ∧
    SameMode s s.pop16.2 ∧ SameRegs [] s s.pop16.2 ∧ SameMemory s s.pop16.2) ∧
  (∀ (s : State) (w : Word), (s.push16 w).pop16.2.sp = s.sp ∧
    ((region (s.sp - 1) = .vram ∨ region (s.sp - 1) = .wram) → (region (s.sp - 2) = .vram ∨ region (s.sp - 2) = .wram) →
      (s.push16 w).pop16.1 = w))

/-- No step, wake, stop request or inspection changes a byte of ROM, and unmapped addresses read 0xFF in every state
(R19, R42, R50). -/
def Obligations.RomNeverChanges : Prop :=
  (∀ (x : Transaction) (s : State) (a : Word), (∀ rom regs, x ≠ .construct rom regs) → a ≤ 0x3FFF →
    (Driver.apply x s).2.read a = s.read a) ∧
  (∀ (s : State) (a : Word), (0x4000 ≤ a ∧ a ≤ 0x7FFF) ∨ (0xA000 ≤ a ∧ a ≤ 0xBFFF) ∨ 0xD000 ≤ a → s.read a = 0xFF)

/-- The log is append only: a step that returns Ok appends at most two records, each for an address outside VRAM and
WRAM and with its region's kind; a DecodeError appends none (R20, R262, R268). That the log is append only and never
cleared is the spec's decision D14, that a DecodeError leaves it D7 (log 13); that each record is kept, where D14 would
allow a count, is the model's choice (log 10, DESIGN CHOICE). -/
def Obligations.LogGrowsByAtMostTwo : Prop :=
  (∀ s t : State, step s = .next t → ∃ ws : List BusWarning, t.log = s.log ++ ws ∧ ws.length ≤ 2 ∧
    ∀ w ∈ ws, (w.kind = .writeToReadOnly ↔ w.address ≤ 0x3FFF) ∧
      ¬ (0x8000 ≤ w.address ∧ w.address ≤ 0x9FFF) ∧ ¬ (0xC000 ≤ w.address ∧ w.address ≤ 0xCFFF)) ∧
  (∀ (s : State) (r : Fault), step s = .fault r → (Driver.step s).2.log = s.log)

/-- What an instruction does not write: every register outside its list, SP, PC, IME, ExecutorState and memory unless it
is one of the instructions that write them (R24, R15, R265, R278). That DI, EI and RETI alone write IME is the spec's
decision D8 (log 13); that the model keeps the bit is its choice (log 9, DESIGN CHOICE), and so is that the constructor
`cbPrefix` counts as the instruction `opcode2` selects, by `selected` (log 6, DESIGN CHOICE). -/
def Obligations.OnlyListedStateIsWritten : Prop :=
  ∀ (i : Instr) (s t : State), exec i s = .next t →
    SameRegs (writesRegs (selected i.form)) s t ∧
    (writesSP (selected i.form) = false → t.sp = s.sp) ∧
    (writesPC (selected i.form) = false → t.pc = s.pc) ∧
    (writesIME (selected i.form) = false → t.ime = s.ime) ∧
    (i.form ≠ .halt → t.execState = s.execState) ∧
    (writesBus (selected i.form) = false → SameMemory s t)

/-- Neither IME nor the log influences a step: two states that differ in them alone step alike, and append the same
records (R20, R265). No transaction shows IME to the driver, for two states that differ in IME alone get the same reply
and differ in IME at most afterwards (R17). The IME bit is the spec's decision D8, the log D14 (log 13). That the model keeps
the bit (log 9), keeps the log whole (log 10) and leaves IME out of an inspection (log 15) are its choices (DESIGN CHOICE). -/
def Obligations.ImeAndLogInfluenceNothing : Prop :=
  (∀ (s : State) (b : Bool) (log : List BusWarning),
    match step s, step { s with ime := b, log := log } with
    | .next t, .next u => ∃ ws, t.log = s.log ++ ws ∧ u = { t with ime := u.ime, log := log ++ ws } ∧
        (u.ime = t.ime ∨ (t.ime = s.ime ∧ u.ime = b))
    | .fault x, .fault y => x = y
    | _, _ => False) ∧
  (∀ (x : Transaction) (s : State) (b : Bool),
    (Driver.apply x { s with ime := b }).1 = (Driver.apply x s).1 ∧
    ∃ c, (Driver.apply x { s with ime := b }).2 = { (Driver.apply x s).2 with ime := c })

/-! ## The step -/

/-- A step returns DecodeError exactly when it is Running and the opcode byte is one of the twelve values with no entry;
the payload is that byte and the PC the step began with; otherwise the step completes; no step is refused (R80, R261, R263;
the twelve values are the spec's decisions D5, D6, log 13). That it is the fault outcome of `step` is log 4 (DESIGN CHOICE). -/
def Obligations.StepFaultsExactlyOnNoEntry : Prop :=
  (∀ (s : State) (op : Byte) (a : Word), step s = .fault (.decodeError op a) ↔
    s.execState = .running ∧ s.read s.pc ∈ noEntryOpcodes ∧ op = s.read s.pc ∧ a = s.pc) ∧
  (∀ s : State, ¬ (s.execState = .running ∧ s.read s.pc ∈ noEntryOpcodes) → ∃ t, step s = .next t)

/-- The meanings of the twelve values with no entry raise DecodeError in every state, and the driver then sees PC past
the opcode byte and everything else unchanged (R80, R255, R256, R261). Which twelve values have no entry is the spec's
decisions D5 and D6, the post-state D7 (log 13). That these values are constructors which decode, and whose meaning faults,
is the model's choice (logs 7 and 4, DESIGN CHOICE). -/
def Obligations.NoEntryRaisesDecodeError : Prop :=
  (∀ (i : Instr) (op : Byte) (s : State), i.form = .noEntry op →
    EncodedAs i [op] ∧ op ∈ noEntryOpcodes ∧ exec i s = .fault (.decodeError op (s.pc - 1))) ∧
  (∀ op ∈ noEntryOpcodes, ∃ i : Instr, i.form = .noEntry op) ∧
  (∀ s : State, s.execState = .running → s.read s.pc ∈ noEntryOpcodes →
    Driver.step s = (.decodeError (s.read s.pc) s.pc, { s with pc := s.pc + 1 }))

/-- Halted and Stopped: a step does nothing, has no bus access, and returns Ok; they differ in what leaves them, and lose
nothing (R277). That stop_request is honoured from Halted is the spec's reading C6 and D10, that Stopped ignores wake D9, that
construct leaves both D10 (log 13); `busTrace` is the model's function of the state (log 11, DESIGN CHOICE). -/
def Obligations.NotRunningStepsDoNothing : Prop :=
  ∀ s : State, s.execState ≠ .running →
    step s = .next s ∧ Driver.step s = (.ok, s) ∧ busTrace s = [] ∧
    (s.execState = .halted → wake s = { s with execState := .running } ∧ stopRequest s = { s with execState := .stopped }) ∧
    (s.execState = .stopped → wake s = s ∧ stopRequest s = s) ∧
    (∀ rom regs, (Driver.apply (.construct rom regs) s).2.execState = .running)

/-- The transitions of ExecutorState, and no others (R266, R267, R278; the spec's decisions D7 for DecodeError, D9, D10 and
its reading C6, log 13). -/
def Obligations.ExecutorTransitions : Prop :=
  (∀ s t : State, s.execState = .running → step s = .next t →
    t.execState = if s.read s.pc = 0x76 then .halted else .running) ∧
  (∀ s : State, s.execState = .running → s.read s.pc = 0x76 →
    step s = .next { s with pc := s.pc + 1, execState := .halted }) ∧
  (∀ (s : State) (r : Fault), step s = .fault r → (Driver.step s).2.execState = .running) ∧
  (∀ s : State, wake s = if s.execState = .halted then { s with execState := .running } else s) ∧
  (∀ s : State, stopRequest s = { s with execState := .stopped }) ∧
  (∀ s : State, stopRequest (wake s) = stopRequest s ∧ wake (stopRequest s) = stopRequest s)

/-- The final states are exactly those of R296: Halted, Stopped, or Running at a jump to itself (the definition of a
final state is the spec's decision D23). -/
def Obligations.FinalStatesAreExactly : Prop :=
  ∀ s : State, s.Final ↔
    s.execState = .halted ∨ s.execState = .stopped ∨
    (s.execState = .running ∧ ∃ (i : Instr) (rest : List Byte), decode s.bytesAtPC = .ok (i, rest) ∧
      (i.form = .jr 0xFE ∨ (∃ cc, i.form = .jr_cc cc 0xFE ∧ s.cond cc = true) ∨
       i.form = .jp s.pc ∨ (∃ cc, i.form = .jp_cc cc s.pc ∧ s.cond cc = true) ∨
       (i.form = .jp_HL ∧ s.get16 .HL = s.pc)))

/-- The bus trace is what a step does with the bus (R49, R76, R42, R43, R277; the order inside a two-byte store is the spec's
decision D18). That the accesses and their order are a function of the state a step begins in is the model's choice
(log 11, DESIGN CHOICE). Its writes, replayed, give the memory and the log that the step leaves. The step looks at memory through
its reads alone: another memory that answers them alike gives the same trace, the same registers and the same log, or
the same DecodeError. The first reads are the bytes of the instruction, in rising order, each once; a value with no
entry reads its opcode byte and no more; a step that is not Running reads nothing. All reads come before all writes,
and there are at most two writes. -/
def Obligations.BusTraceIsTheStep : Prop :=
  (∀ s t : State, step s = .next t → t.mem = (s.replay (busTrace s)).mem ∧ t.log = (s.replay (busTrace s)).log) ∧
  (∀ (s : State) (m : Memory), (∀ a v, BusAccess.read a v ∈ busTrace s → ({ s with mem := m } : State).read a = v) →
    busTrace { s with mem := m } = busTrace s ∧
    match step s, step { s with mem := m } with
    | .next t, .next u => u = { t with mem := u.mem }
    | .fault x, .fault y => x = y
    | _, _ => False) ∧
  (∀ (s : State) (i : Instr) (rest : List Byte), s.execState = .running → decode s.bytesAtPC = .ok (i, rest) →
    (busTrace s).take (3 - rest.length) =
      ([s.pc, s.pc + 1, s.pc + 2].take (3 - rest.length)).map fun a => .read a (s.read a)) ∧
  (∀ s : State, s.execState = .running → s.read s.pc ∈ noEntryOpcodes → busTrace s = [.read s.pc (s.read s.pc)]) ∧
  (∀ s : State, s.execState ≠ .running → busTrace s = []) ∧
  (∀ s : State, ∃ (rs : List Word) (ws : List (Word × Byte)), rs.length ≤ 5 ∧ ws.length ≤ 2 ∧
    busTrace s = (rs.map fun a => .read a (s.read a)) ++ ws.map fun w => .write w.1 w.2)

/-- Every instruction changes every flag as its table entry says, and no instruction changes bits 3 to 0 of F where they
are 0 (R81, R12). The class Computed of the four flags of POP AF is the spec's decision D25, the class Clear of Z in RLCA,
RRCA, RLA and RRA is D29 (log 13). The twelve values with no entry have no flag effects and are left to
`NoEntryRaisesDecodeError`. -/
def Obligations.FlagEffectsFollowTheTable : Prop :=
  ∀ (i : Instr) (s t : State) (fx : FlagEffects), i.entry.flags = some fx → exec i s = .next t →
    EffectHolds fx.z (s.getFlag .Z) (t.getFlag .Z) ∧
    EffectHolds fx.n (s.getFlag .N) (t.getFlag .N) ∧
    EffectHolds fx.h (s.getFlag .H) (t.getFlag .H) ∧
    EffectHolds fx.c (s.getFlag .C) (t.getFlag .C) ∧
    (s.f &&& 0x0F = 0 → t.f &&& 0x0F = 0)

/-! ## 8-bit loads and stores (40_load8.md) -/

/-- `LD r,r'` (R101). -/
def Obligations.LoadRegisterFromRegister : Prop :=
  ∀ (i : Instr) (d r : RField) (s : State), i.form = .ld_r_r d r →
    EncodedAs i [BitVec.ofNat 8 (0x40 + 8 * d.code + r.code)] ∧
    ∃ t, exec i s = .next t ∧ t.getR d = s.getR r ∧
      SameRegs [d.reg] s t ∧ SameFlags [] s t ∧ SameMemory s t ∧ SameControl s t

/-- `LD r,d8` (R102) and `LD r,[HL]` (R103), whose address is formed before the load. -/
def Obligations.LoadRegisterFromByte : Prop :=
  (∀ (i : Instr) (d : RField) (n : Byte) (s : State), i.form = .ld_r_d8 d n →
    EncodedAs i [BitVec.ofNat 8 (0x06 + 8 * d.code), n] ∧
    ∃ t, exec i s = .next t ∧ t.getR d = n ∧
      SameRegs [d.reg] s t ∧ SameFlags [] s t ∧ SameMemory s t ∧ SameControl s t) ∧
  (∀ (i : Instr) (d : RField) (s : State), i.form = .ld_r_atHL d →
    EncodedAs i [BitVec.ofNat 8 (0x46 + 8 * d.code)] ∧
    ∃ t, exec i s = .next t ∧ t.getR d = s.read (s.get16 .HL) ∧
      SameRegs [d.reg] s t ∧ SameFlags [] s t ∧ SameMemory s t ∧ SameControl s t)

/-- `LD [HL],r` (R104) and `LD [HL],d8` (R105). -/
def Obligations.StoreAtHL : Prop :=
  (∀ (i : Instr) (r : RField) (s : State), i.form = .ld_atHL_r r →
    EncodedAs i [BitVec.ofNat 8 (0x70 + r.code)] ∧
    ∃ t, exec i s = .next t ∧ StoresByte (s.get16 .HL) (s.getR r) s t ∧
      SameRegs [] s t ∧ SameFlags [] s t ∧ SameControl s t) ∧
  (∀ (i : Instr) (n : Byte) (s : State), i.form = .ld_atHL_d8 n →
    EncodedAs i [0x36, n] ∧
    ∃ t, exec i s = .next t ∧ StoresByte (s.get16 .HL) n s t ∧
      SameRegs [] s t ∧ SameFlags [] s t ∧ SameControl s t)

/-- `LD A,[BC]`, `LD A,[DE]` (R106, R107), `LD A,[HL+]`, `LD A,[HL-]` (R117, R119). -/
def Obligations.LoadAFromPairAddress : Prop :=
  (∀ s : State,
    EncodedAs .ld_A_atBC [0x0A] ∧ ∃ t, exec .ld_A_atBC s = .next t ∧ t.get8 .A = s.read (s.get16 .BC) ∧
      SameRegs [.A] s t ∧ SameFlags [] s t ∧ SameMemory s t ∧ SameControl s t) ∧
  (∀ s : State,
    EncodedAs .ld_A_atDE [0x1A] ∧ ∃ t, exec .ld_A_atDE s = .next t ∧ t.get8 .A = s.read (s.get16 .DE) ∧
      SameRegs [.A] s t ∧ SameFlags [] s t ∧ SameMemory s t ∧ SameControl s t) ∧
  (∀ s : State,
    EncodedAs .ld_A_atHLinc [0x2A] ∧ ∃ t, exec .ld_A_atHLinc s = .next t ∧ t.get8 .A = s.read (s.get16 .HL) ∧
      t.get16 .HL = s.get16 .HL + 1 ∧
      SameRegs [.A, .H, .L] s t ∧ SameFlags [] s t ∧ SameMemory s t ∧ SameControl s t) ∧
  (∀ s : State,
    EncodedAs .ld_A_atHLdec [0x3A] ∧ ∃ t, exec .ld_A_atHLdec s = .next t ∧ t.get8 .A = s.read (s.get16 .HL) ∧
      t.get16 .HL = s.get16 .HL - 1 ∧
      SameRegs [.A, .H, .L] s t ∧ SameFlags [] s t ∧ SameMemory s t ∧ SameControl s t)

/-- `LD [BC],A`, `LD [DE],A` (R108, R109), `LD [HL+],A`, `LD [HL-],A` (R116, R118): HL steps also where the store is
ignored. -/
def Obligations.StoreAAtPairAddress : Prop :=
  (∀ s : State,
    EncodedAs .ld_atBC_A [0x02] ∧ ∃ t, exec .ld_atBC_A s = .next t ∧ StoresByte (s.get16 .BC) (s.get8 .A) s t ∧
      SameRegs [] s t ∧ SameFlags [] s t ∧ SameControl s t) ∧
  (∀ s : State,
    EncodedAs .ld_atDE_A [0x12] ∧ ∃ t, exec .ld_atDE_A s = .next t ∧ StoresByte (s.get16 .DE) (s.get8 .A) s t ∧
      SameRegs [] s t ∧ SameFlags [] s t ∧ SameControl s t) ∧
  (∀ s : State,
    EncodedAs .ld_atHLinc_A [0x22] ∧ ∃ t, exec .ld_atHLinc_A s = .next t ∧ StoresByte (s.get16 .HL) (s.get8 .A) s t ∧
      t.get16 .HL = s.get16 .HL + 1 ∧ SameRegs [.H, .L] s t ∧ SameFlags [] s t ∧ SameControl s t) ∧
  (∀ s : State,
    EncodedAs .ld_atHLdec_A [0x32] ∧ ∃ t, exec .ld_atHLdec_A s = .next t ∧ StoresByte (s.get16 .HL) (s.get8 .A) s t ∧
      t.get16 .HL = s.get16 .HL - 1 ∧ SameRegs [.H, .L] s t ∧ SameFlags [] s t ∧ SameControl s t)

/-- `LD A,[a16]` (R110) and `LD [a16],A` (R111). -/
def Obligations.DirectLoadAndStore : Prop :=
  (∀ (aa : Word) (s : State),
    EncodedAs (.ld_A_atA16 aa) [0xFA, aa.extractLsb' 0 8, aa.extractLsb' 8 8] ∧
    ∃ t, exec (.ld_A_atA16 aa) s = .next t ∧ t.get8 .A = s.read aa ∧
      SameRegs [.A] s t ∧ SameFlags [] s t ∧ SameMemory s t ∧ SameControl s t) ∧
  (∀ (aa : Word) (s : State),
    EncodedAs (.ld_atA16_A aa) [0xEA, aa.extractLsb' 0 8, aa.extractLsb' 8 8] ∧
    ∃ t, exec (.ld_atA16_A aa) s = .next t ∧ StoresByte aa (s.get8 .A) s t ∧
      SameRegs [] s t ∧ SameFlags [] s t ∧ SameControl s t)

/-- `LDH A,[a8]`, `LDH A,[C]` (R112, R114): A becomes 0xFF, for the whole page is unmapped; `LDH [a8],A`, `LDH [C],A`
(R113, R115): ignored, with one WriteUnmapped record. The page base 0xFF00 is the spec's decision D11. -/
def Obligations.HighPageLoadAndStore : Prop :=
  (∀ (n : Byte) (s : State),
    EncodedAs (.ldh_A_atA8 n) [0xF0, n] ∧ ∃ t, exec (.ldh_A_atA8 n) s = .next t ∧
      t.get8 .A = s.read (0xFF00 + n.setWidth 16) ∧ t.get8 .A = 0xFF ∧
      SameRegs [.A] s t ∧ SameFlags [] s t ∧ SameMemory s t ∧ SameControl s t) ∧
  (∀ s : State,
    EncodedAs .ldh_A_atC [0xF2] ∧ ∃ t, exec .ldh_A_atC s = .next t ∧
      t.get8 .A = s.read (0xFF00 + s.c.setWidth 16) ∧ t.get8 .A = 0xFF ∧
      SameRegs [.A] s t ∧ SameFlags [] s t ∧ SameMemory s t ∧ SameControl s t) ∧
  (∀ (n : Byte) (s : State),
    EncodedAs (.ldh_atA8_A n) [0xE0, n] ∧ ∃ t, exec (.ldh_atA8_A n) s = .next t ∧
      StoresByte (0xFF00 + n.setWidth 16) (s.get8 .A) s t ∧
      t.log = s.log ++ [⟨0xFF00 + n.setWidth 16, .writeUnmapped⟩] ∧ (∀ a, t.read a = s.read a) ∧
      SameRegs [] s t ∧ SameFlags [] s t ∧ SameControl s t) ∧
  (∀ s : State,
    EncodedAs .ldh_atC_A [0xE2] ∧ ∃ t, exec .ldh_atC_A s = .next t ∧
      StoresByte (0xFF00 + s.c.setWidth 16) (s.get8 .A) s t ∧
      t.log = s.log ++ [⟨0xFF00 + s.c.setWidth 16, .writeUnmapped⟩] ∧ (∀ a, t.read a = s.read a) ∧
      SameRegs [] s t ∧ SameFlags [] s t ∧ SameControl s t)

/-! ## 16-bit loads and the stack (41_load16.md) -/

/-- `LD rr,d16` (R130) and `LD SP,HL` (R132). -/
def Obligations.LoadPairOrSP : Prop :=
  (∀ (i : Instr) (rr : PairField) (nn : Word) (s : State), i.form = .ld_rr_d16 rr nn →
    EncodedAs i [BitVec.ofNat 8 (0x01 + 16 * rr.code), nn.extractLsb' 0 8, nn.extractLsb' 8 8] ∧
    ∃ t, exec i s = .next t ∧ t.get16 rr.reg = nn ∧
      SameRegs (match rr with | .BC => [.B, .C] | .DE => [.D, .E] | .HL => [.H, .L] | .SP => []) s t ∧
      (rr ≠ .SP → t.sp = s.sp) ∧ SameFlags [] s t ∧ SameMemory s t ∧ t.pc = s.pc ∧ SameMode s t) ∧
  (∀ s : State,
    EncodedAs .ld_SP_HL [0xF9] ∧ ∃ t, exec .ld_SP_HL s = .next t ∧ t.sp = s.get16 .HL ∧
      SameRegs [] s t ∧ SameFlags [] s t ∧ SameMemory s t ∧ t.pc = s.pc ∧ SameMode s t)

/-- `LD [a16],SP`: low byte at a16, then high byte at a16 + 1 (R131; the order of the two writes is the spec's decision
D18). -/
def Obligations.StoreSPDirect : Prop :=
  ∀ (aa : Word) (s : State),
    EncodedAs (.ld_atA16_SP aa) [0x08, aa.extractLsb' 0 8, aa.extractLsb' 8 8] ∧
    ∃ t, exec (.ld_atA16_SP aa) s = .next t ∧
      StoresTwo aa (s.sp.extractLsb' 0 8) (aa + 1) (s.sp.extractLsb' 8 8) s t ∧
      SameRegs [] s t ∧ SameFlags [] s t ∧ SameControl s t

/-- `LD HL,SP+e8` (R133) and `ADD SP,e8` (R183): the sum with the signed byte; H and C from adding the byte, unsigned, to
the low byte of the old SP (the spec's resolution C5 and decision D12). -/
def Obligations.StackPointerPlusOffset : Prop :=
  (∀ (e : Byte) (s : State),
    EncodedAs (.ld_HL_SPe8 e) [0xF8, e] ∧ ∃ t, exec (.ld_HL_SPe8 e) s = .next t ∧
      (t.get16 .HL).toInt = (s.sp.toInt + e.toInt).bmod (2 ^ 16) ∧
      t.getFlag .Z = false ∧ t.getFlag .N = false ∧
      t.getFlag .H = decide (s.sp.toNat % 16 + e.toNat % 16 > 0xF) ∧
      t.getFlag .C = decide (s.sp.toNat % 256 + e.toNat > 0xFF) ∧
      SameRegs [.H, .L, .F] s t ∧ SameFlags [.Z, .N, .H, .C] s t ∧ SameMemory s t ∧ SameControl s t) ∧
  (∀ (e : Byte) (s : State),
    EncodedAs (.add_SP_e8 e) [0xE8, e] ∧ ∃ t, exec (.add_SP_e8 e) s = .next t ∧
      t.sp.toInt = (s.sp.toInt + e.toInt).bmod (2 ^ 16) ∧
      t.getFlag .Z = false ∧ t.getFlag .N = false ∧
      t.getFlag .H = decide (s.sp.toNat % 16 + e.toNat % 16 > 0xF) ∧
      t.getFlag .C = decide (s.sp.toNat % 256 + e.toNat > 0xFF) ∧
      SameRegs [.F] s t ∧ SameFlags [.Z, .N, .H, .C] s t ∧ SameMemory s t ∧ t.pc = s.pc ∧ SameMode s t)

/-- `PUSH rr` (R134); the F byte that PUSH AF writes has bits 3:0 = 0 where F has. -/
def Obligations.PushPair : Prop :=
  ∀ (i : Instr) (rr : StackField) (s : State), i.form = .push rr →
    EncodedAs i [BitVec.ofNat 8 (0xC5 + 16 * rr.code)] ∧
    ∃ t, exec i s = .next t ∧ t.sp = s.sp - 2 ∧
      StoresTwo (s.sp - 1) ((s.get16 rr.reg).extractLsb' 8 8) (s.sp - 2) ((s.get16 rr.reg).extractLsb' 0 8) s t ∧
      (rr = .AF → s.f &&& 0x0F = 0 → (s.get16 rr.reg).extractLsb' 0 8 &&& 0x0F = 0) ∧
      SameRegs [] s t ∧ SameFlags [] s t ∧ t.pc = s.pc ∧ SameMode s t

/-- `POP BC`, `POP DE`, `POP HL` (R135). -/
def Obligations.PopPair : Prop :=
  ∀ (i : Instr) (rr : StackField) (s : State), i.form = .pop rr → rr ≠ .AF →
    EncodedAs i [BitVec.ofNat 8 (0xC1 + 16 * rr.code)] ∧
    ∃ t, exec i s = .next t ∧ t.get16 rr.reg = s.read (s.sp + 1) ++ s.read s.sp ∧ t.sp = s.sp + 2 ∧
      SameRegs (match rr with | .BC => [.B, .C] | .DE => [.D, .E] | .HL => [.H, .L] | .AF => []) s t ∧
      SameFlags [] s t ∧ SameMemory s t ∧ t.pc = s.pc ∧ SameMode s t

/-- `POP AF` (R136): the flags are bits 7 to 4 of the byte popped, its low nibble is discarded (the mask is the spec's
inference from R12). After `PUSH AF` on a writable stack it restores A and, where `F[3:0] = 0`, F. -/
def Obligations.PopAF : Prop :=
  (∀ s : State,
    EncodedAs .pop_AF [0xF1] ∧ ∃ t, exec .pop_AF s = .next t ∧
      t.get8 .A = s.read (s.sp + 1) ∧ t.get8 .F = s.read s.sp &&& 0xF0 ∧ t.sp = s.sp + 2 ∧
      t.getFlag .Z = (s.read s.sp).getLsbD 7 ∧ t.getFlag .N = (s.read s.sp).getLsbD 6 ∧
      t.getFlag .H = (s.read s.sp).getLsbD 5 ∧ t.getFlag .C = (s.read s.sp).getLsbD 4 ∧
      SameRegs [.A, .F] s t ∧ SameMemory s t ∧ t.pc = s.pc ∧ SameMode s t) ∧
  (∀ s : State, s.f &&& 0x0F = 0 → (region (s.sp - 1) = .vram ∨ region (s.sp - 1) = .wram) →
    (region (s.sp - 2) = .vram ∨ region (s.sp - 2) = .wram) →
    ∃ t u, exec .push_AF s = .next t ∧ exec .pop_AF t = .next u ∧ SameRegs [] s u ∧ u.sp = s.sp)

/-! ## 8-bit arithmetic and logic (42_alu8.md) -/

/-- `ADD A,r`, `ADD A,[HL]`, `ADD A,d8` (R141, R142, R143). -/
def Obligations.AddToA : Prop :=
  ∀ (i : Instr) (s : State) (v : Byte) (bytes : List Byte), AluInstr i .add s v bytes →
    EncodedAs i bytes ∧ ∃ t, exec i s = .next t ∧
      t.a.toNat = (s.a.toNat + v.toNat) % 256 ∧
      t.getFlag .Z = decide (t.a = 0) ∧ t.getFlag .N = false ∧
      t.getFlag .H = decide (s.a.toNat % 16 + v.toNat % 16 > 0xF) ∧
      t.getFlag .C = decide (s.a.toNat + v.toNat > 0xFF) ∧
      SameRegs [.A, .F] s t ∧ SameFlags [.Z, .N, .H, .C] s t ∧ SameMemory s t ∧ SameControl s t

/-- `SUB` (R147, R148, R149), and `CP` (R162, R163, R164), which sets the flags of the difference and does not write A. -/
def Obligations.SubtractAndCompare : Prop :=
  (∀ (i : Instr) (s : State) (v : Byte) (bytes : List Byte), AluInstr i .sub s v bytes →
    EncodedAs i bytes ∧ ∃ t, exec i s = .next t ∧
      t.a.toNat = (s.a.toNat + 256 - v.toNat) % 256 ∧
      t.getFlag .Z = decide (t.a = 0) ∧ t.getFlag .N = true ∧
      t.getFlag .H = decide (s.a.toNat % 16 < v.toNat % 16) ∧
      t.getFlag .C = decide (s.a.toNat < v.toNat) ∧
      SameRegs [.A, .F] s t ∧ SameFlags [.Z, .N, .H, .C] s t ∧ SameMemory s t ∧ SameControl s t) ∧
  (∀ (i : Instr) (s : State) (v : Byte) (bytes : List Byte), AluInstr i .cp s v bytes →
    EncodedAs i bytes ∧ ∃ t, exec i s = .next t ∧
      t.getFlag .Z = decide (s.a = v) ∧ t.getFlag .N = true ∧
      t.getFlag .H = decide (s.a.toNat % 16 < v.toNat % 16) ∧
      t.getFlag .C = decide (s.a.toNat < v.toNat) ∧
      SameRegs [.F] s t ∧ SameFlags [.Z, .N, .H, .C] s t ∧ SameMemory s t ∧ SameControl s t)

/-- `ADC A,…` (R144, R145, R146) and `SBC A,…` (R150, R151, R152): the carry-in takes part in the result, in H and in C
(the carry-in of R140 is the spec's decision D13). -/
def Obligations.AddAndSubtractWithCarry : Prop :=
  (∀ (i : Instr) (s : State) (v : Byte) (bytes : List Byte), AluInstr i .adc s v bytes →
    EncodedAs i bytes ∧ ∃ t, exec i s = .next t ∧
      t.a.toNat = (s.a.toNat + v.toNat + (s.getFlag .C).toNat) % 256 ∧
      t.getFlag .Z = decide (t.a = 0) ∧ t.getFlag .N = false ∧
      t.getFlag .H = decide (s.a.toNat % 16 + v.toNat % 16 + (s.getFlag .C).toNat > 0xF) ∧
      t.getFlag .C = decide (s.a.toNat + v.toNat + (s.getFlag .C).toNat > 0xFF) ∧
      SameRegs [.A, .F] s t ∧ SameFlags [.Z, .N, .H, .C] s t ∧ SameMemory s t ∧ SameControl s t) ∧
  (∀ (i : Instr) (s : State) (v : Byte) (bytes : List Byte), AluInstr i .sbc s v bytes →
    EncodedAs i bytes ∧ ∃ t, exec i s = .next t ∧
      t.a.toNat = (s.a.toNat + 256 - v.toNat - (s.getFlag .C).toNat) % 256 ∧
      t.getFlag .Z = decide (t.a = 0) ∧ t.getFlag .N = true ∧
      t.getFlag .H = decide (s.a.toNat % 16 < v.toNat % 16 + (s.getFlag .C).toNat) ∧
      t.getFlag .C = decide (s.a.toNat < v.toNat + (s.getFlag .C).toNat) ∧
      SameRegs [.A, .F] s t ∧ SameFlags [.Z, .N, .H, .C] s t ∧ SameMemory s t ∧ SameControl s t)

/-- `AND` (R153, R154, R155), `XOR` (R156, R157, R158), `OR` (R159, R160, R161). -/
def Obligations.LogicOnA : Prop :=
  ∀ (i : Instr) (op : AluOp) (s : State) (v : Byte) (bytes : List Byte), op ∈ [AluOp.and, .xor, .or] → AluInstr i op s v bytes →
    EncodedAs i bytes ∧ ∃ t, exec i s = .next t ∧
      (∀ k < 8, t.a.getLsbD k =
        if op = .and then (s.a.getLsbD k && v.getLsbD k)
        else if op = .xor then (s.a.getLsbD k != v.getLsbD k)
        else (s.a.getLsbD k || v.getLsbD k)) ∧
      t.getFlag .Z = decide (t.a = 0) ∧ t.getFlag .N = false ∧
      t.getFlag .H = decide (op = .and) ∧ t.getFlag .C = false ∧
      SameRegs [.A, .F] s t ∧ SameFlags [.Z, .N, .H, .C] s t ∧ SameMemory s t ∧ SameControl s t

/-- `INC r` (R165) and `DEC r` (R167): C is unaffected. -/
def Obligations.IncAndDecRegister : Prop :=
  (∀ (i : Instr) (r : RField) (s : State), i.form = .inc_r r →
    EncodedAs i [BitVec.ofNat 8 (0x04 + 8 * r.code)] ∧ ∃ t, exec i s = .next t ∧
      (t.getR r).toNat = ((s.getR r).toNat + 1) % 256 ∧
      t.getFlag .Z = decide (t.getR r = 0) ∧ t.getFlag .N = false ∧
      t.getFlag .H = decide ((s.getR r).toNat % 16 = 15) ∧
      SameRegs [r.reg, .F] s t ∧ SameFlags [.Z, .N, .H] s t ∧ SameMemory s t ∧ SameControl s t) ∧
  (∀ (i : Instr) (r : RField) (s : State), i.form = .dec_r r →
    EncodedAs i [BitVec.ofNat 8 (0x05 + 8 * r.code)] ∧ ∃ t, exec i s = .next t ∧
      (t.getR r).toNat = ((s.getR r).toNat + 255) % 256 ∧
      t.getFlag .Z = decide (t.getR r = 0) ∧ t.getFlag .N = true ∧
      t.getFlag .H = decide ((s.getR r).toNat % 16 = 0) ∧
      SameRegs [r.reg, .F] s t ∧ SameFlags [.Z, .N, .H] s t ∧ SameMemory s t ∧ SameControl s t)

/-- `INC [HL]` (R166) and `DEC [HL]` (R168): the flags come from the byte read, whether or not the store is ignored. -/
def Obligations.IncAndDecAtHL : Prop :=
  (∀ s : State,
    EncodedAs .inc_atHL [0x34] ∧ ∃ t, exec .inc_atHL s = .next t ∧
      StoresByte (s.get16 .HL) (s.read (s.get16 .HL) + 1) s t ∧
      t.getFlag .Z = decide ((s.read (s.get16 .HL)).toNat = 255) ∧ t.getFlag .N = false ∧
      t.getFlag .H = decide ((s.read (s.get16 .HL)).toNat % 16 = 15) ∧
      SameRegs [.F] s t ∧ SameFlags [.Z, .N, .H] s t ∧ SameControl s t) ∧
  (∀ s : State,
    EncodedAs .dec_atHL [0x35] ∧ ∃ t, exec .dec_atHL s = .next t ∧
      StoresByte (s.get16 .HL) (s.read (s.get16 .HL) - 1) s t ∧
      t.getFlag .Z = decide ((s.read (s.get16 .HL)).toNat = 1) ∧ t.getFlag .N = true ∧
      t.getFlag .H = decide ((s.read (s.get16 .HL)).toNat % 16 = 0) ∧
      SameRegs [.F] s t ∧ SameFlags [.Z, .N, .H] s t ∧ SameControl s t)

/-- `DAA` (R169): after an addition 0x06 and 0x60 are added by the flags and by A before any adjustment, after a
subtraction they are subtracted by the flags alone (the procedure is the spec's decision D24). -/
def Obligations.DecimalAdjust : Prop :=
  ∀ s : State,
    EncodedAs .daa [0x27] ∧ ∃ t, exec .daa s = .next t ∧
      (s.getFlag .N = false →
        t.a.toNat = (s.a.toNat + (if s.getFlag .H = true ∨ s.a.toNat % 16 > 9 then 0x06 else 0)
          + (if s.getFlag .C = true ∨ s.a.toNat > 0x99 then 0x60 else 0)) % 256 ∧
        t.getFlag .C = decide (s.getFlag .C = true ∨ s.a.toNat > 0x99)) ∧
      (s.getFlag .N = true →
        t.a.toNat = (s.a.toNat + 256 - (if s.getFlag .H = true then 0x06 else 0)
          - (if s.getFlag .C = true then 0x60 else 0)) % 256 ∧
        t.getFlag .C = s.getFlag .C) ∧
      t.getFlag .Z = decide (t.a = 0) ∧ t.getFlag .H = false ∧
      SameRegs [.A, .F] s t ∧ SameFlags [.Z, .H, .C] s t ∧ SameMemory s t ∧ SameControl s t

/-- `CPL` (R170), `SCF` (R171), `CCF` (R172). -/
def Obligations.ComplementAndCarry : Prop :=
  (∀ s : State,
    EncodedAs .cpl [0x2F] ∧ ∃ t, exec .cpl s = .next t ∧ t.a = s.a ^^^ 0xFF ∧
      t.getFlag .N = true ∧ t.getFlag .H = true ∧
      SameRegs [.A, .F] s t ∧ SameFlags [.N, .H] s t ∧ SameMemory s t ∧ SameControl s t) ∧
  (∀ s : State,
    EncodedAs .scf [0x37] ∧ ∃ t, exec .scf s = .next t ∧
      t.getFlag .N = false ∧ t.getFlag .H = false ∧ t.getFlag .C = true ∧
      SameRegs [.F] s t ∧ SameFlags [.N, .H, .C] s t ∧ SameMemory s t ∧ SameControl s t) ∧
  (∀ s : State,
    EncodedAs .ccf [0x3F] ∧ ∃ t, exec .ccf s = .next t ∧
      t.getFlag .N = false ∧ t.getFlag .H = false ∧ t.getFlag .C = !s.getFlag .C ∧
      SameRegs [.F] s t ∧ SameFlags [.N, .H, .C] s t ∧ SameMemory s t ∧ SameControl s t)

/-! ## 16-bit arithmetic (43_alu16.md) -/

/-- `ADD HL,rr` (R180): H out of bit 11, C out of bit 15, Z unaffected. -/
def Obligations.AddToHL : Prop :=
  ∀ (i : Instr) (rr : PairField) (s : State), i.form = .add_HL_rr rr →
    EncodedAs i [BitVec.ofNat 8 (0x09 + 16 * rr.code)] ∧ ∃ t, exec i s = .next t ∧
      (t.get16 .HL).toNat = ((s.get16 .HL).toNat + (s.get16 rr.reg).toNat) % 65536 ∧
      t.getFlag .N = false ∧
      t.getFlag .H = decide ((s.get16 .HL).toNat % 4096 + (s.get16 rr.reg).toNat % 4096 > 0x0FFF) ∧
      t.getFlag .C = decide ((s.get16 .HL).toNat + (s.get16 rr.reg).toNat > 0xFFFF) ∧
      SameRegs [.H, .L, .F] s t ∧ SameFlags [.N, .H, .C] s t ∧ SameMemory s t ∧ SameControl s t

/-- `INC rr` (R181) and `DEC rr` (R182). -/
def Obligations.IncAndDecPair : Prop :=
  (∀ (i : Instr) (rr : PairField) (s : State), i.form = .inc_rr rr →
    EncodedAs i [BitVec.ofNat 8 (0x03 + 16 * rr.code)] ∧ ∃ t, exec i s = .next t ∧
      t.get16 rr.reg = s.get16 rr.reg + 1 ∧
      SameRegs (match rr with | .BC => [.B, .C] | .DE => [.D, .E] | .HL => [.H, .L] | .SP => []) s t ∧
      (rr ≠ .SP → t.sp = s.sp) ∧ SameFlags [] s t ∧ SameMemory s t ∧ t.pc = s.pc ∧ SameMode s t) ∧
  (∀ (i : Instr) (rr : PairField) (s : State), i.form = .dec_rr rr →
    EncodedAs i [BitVec.ofNat 8 (0x0B + 16 * rr.code)] ∧ ∃ t, exec i s = .next t ∧
      t.get16 rr.reg = s.get16 rr.reg - 1 ∧
      SameRegs (match rr with | .BC => [.B, .C] | .DE => [.D, .E] | .HL => [.H, .L] | .SP => []) s t ∧
      (rr ≠ .SP → t.sp = s.sp) ∧ SameFlags [] s t ∧ SameMemory s t ∧ t.pc = s.pc ∧ SameMode s t)

/-! ## Rotates, shifts, bits (44_rotate_shift_bit.md) -/

/-- `RLCA`, `RLA`, `RRCA`, `RRA` (R190 to R193): Z is cleared (the spec's decision D29). -/
def Obligations.RotateA : Prop :=
  ∀ (i : Instr) (op : RotOp) (s : State),
    (i, op) ∈ [(Instr.rlca, RotOp.rlc), (.rrca, .rrc), (.rla, .rl), (.rra, .rr)] →
    EncodedAs i [BitVec.ofNat 8 (0x07 + 8 * op.code)] ∧ ∃ t, exec i s = .next t ∧
      (∀ k < 8, t.a.getLsbD k = rotatedBit op s.a (s.getFlag .C) k) ∧
      t.getFlag .Z = false ∧ t.getFlag .N = false ∧ t.getFlag .H = false ∧ t.getFlag .C = shiftedOutBit op s.a ∧
      SameRegs [.A, .F] s t ∧ SameFlags [.Z, .N, .H, .C] s t ∧ SameMemory s t ∧ SameControl s t

/-- The CB rotates and shifts of a register (R194, R196, R198, R200, R202, R204, R206, R208). -/
def Obligations.RotateRegister : Prop :=
  ∀ (i : Instr) (op : RotOp) (r : RField) (s : State), i.form = .rot_r op r →
    EncodedAs i [0xCB, BitVec.ofNat 8 (8 * op.code + r.code)] ∧ ∃ t, exec i s = .next t ∧
      (∀ k < 8, (t.getR r).getLsbD k = rotatedBit op (s.getR r) (s.getFlag .C) k) ∧
      t.getFlag .Z = decide (t.getR r = 0) ∧ t.getFlag .N = false ∧ t.getFlag .H = false ∧
      t.getFlag .C = shiftedOutBit op (s.getR r) ∧
      SameRegs [r.reg, .F] s t ∧ SameFlags [.Z, .N, .H, .C] s t ∧ SameMemory s t ∧ SameControl s t

/-- The CB rotates and shifts of the byte at HL (R195, R197, R199, R201, R203, R205, R207, R209): the flags come from the
byte read, whether or not the store is ignored. -/
def Obligations.RotateAtHL : Prop :=
  ∀ (i : Instr) (op : RotOp) (s : State), i.form = .rot_atHL op →
    EncodedAs i [0xCB, BitVec.ofNat 8 (6 + 8 * op.code)] ∧ ∃ (t : State) (res : Byte), exec i s = .next t ∧
      (∀ k < 8, res.getLsbD k = rotatedBit op (s.read (s.get16 .HL)) (s.getFlag .C) k) ∧
      StoresByte (s.get16 .HL) res s t ∧
      t.getFlag .Z = decide (res = 0) ∧ t.getFlag .N = false ∧ t.getFlag .H = false ∧
      t.getFlag .C = shiftedOutBit op (s.read (s.get16 .HL)) ∧
      SameRegs [.F] s t ∧ SameFlags [.Z, .N, .H, .C] s t ∧ SameControl s t

/-- `BIT b,r` (R210) and `BIT b,[HL]` (R211): nothing is written but Z, N, H. -/
def Obligations.BitTest : Prop :=
  (∀ (i : Instr) (b : Fin 8) (r : RField) (s : State), i.form = .bit_b_r b r →
    EncodedAs i [0xCB, BitVec.ofNat 8 (0x40 + 8 * b.val + r.code)] ∧ ∃ t, exec i s = .next t ∧
      t.getFlag .Z = !(s.getR r).getLsbD b.val ∧ t.getFlag .N = false ∧ t.getFlag .H = true ∧
      SameRegs [.F] s t ∧ SameFlags [.Z, .N, .H] s t ∧ SameMemory s t ∧ SameControl s t) ∧
  (∀ (i : Instr) (b : Fin 8) (s : State), i.form = .bit_b_atHL b →
    EncodedAs i [0xCB, BitVec.ofNat 8 (0x46 + 8 * b.val)] ∧ ∃ t, exec i s = .next t ∧
      t.getFlag .Z = !(s.read (s.get16 .HL)).getLsbD b.val ∧ t.getFlag .N = false ∧ t.getFlag .H = true ∧
      SameRegs [.F] s t ∧ SameFlags [.Z, .N, .H] s t ∧ SameMemory s t ∧ SameControl s t)

/-- `RES b,r` (R212) and `SET b,r` (R214): that bit, and no other. -/
def Obligations.ResAndSetRegister : Prop :=
  (∀ (i : Instr) (b : Fin 8) (r : RField) (s : State), i.form = .res_b_r b r →
    EncodedAs i [0xCB, BitVec.ofNat 8 (0x80 + 8 * b.val + r.code)] ∧ ∃ t, exec i s = .next t ∧
      (∀ k < 8, (t.getR r).getLsbD k = if k = b.val then false else (s.getR r).getLsbD k) ∧
      SameRegs [r.reg] s t ∧ SameFlags [] s t ∧ SameMemory s t ∧ SameControl s t) ∧
  (∀ (i : Instr) (b : Fin 8) (r : RField) (s : State), i.form = .set_b_r b r →
    EncodedAs i [0xCB, BitVec.ofNat 8 (0xC0 + 8 * b.val + r.code)] ∧ ∃ t, exec i s = .next t ∧
      (∀ k < 8, (t.getR r).getLsbD k = if k = b.val then true else (s.getR r).getLsbD k) ∧
      SameRegs [r.reg] s t ∧ SameFlags [] s t ∧ SameMemory s t ∧ SameControl s t)

/-- `RES b,[HL]` (R213) and `SET b,[HL]` (R215): the store is issued even where the bit has that value already. -/
def Obligations.ResAndSetAtHL : Prop :=
  (∀ (i : Instr) (b : Fin 8) (s : State), i.form = .res_b_atHL b →
    EncodedAs i [0xCB, BitVec.ofNat 8 (0x86 + 8 * b.val)] ∧ ∃ (t : State) (res : Byte), exec i s = .next t ∧
      (∀ k < 8, res.getLsbD k = if k = b.val then false else (s.read (s.get16 .HL)).getLsbD k) ∧
      StoresByte (s.get16 .HL) res s t ∧ SameRegs [] s t ∧ SameFlags [] s t ∧ SameControl s t) ∧
  (∀ (i : Instr) (b : Fin 8) (s : State), i.form = .set_b_atHL b →
    EncodedAs i [0xCB, BitVec.ofNat 8 (0xC6 + 8 * b.val)] ∧ ∃ (t : State) (res : Byte), exec i s = .next t ∧
      (∀ k < 8, res.getLsbD k = if k = b.val then true else (s.read (s.get16 .HL)).getLsbD k) ∧
      StoresByte (s.get16 .HL) res s t ∧ SameRegs [] s t ∧ SameFlags [] s t ∧ SameControl s t)

/-! ## Jumps, calls, returns (45_control.md) -/

/-- The four conditions (R220), `JP a16` (R221), `JP cc,a16` (R222), `JP HL` (R223): PC alone changes. -/
def Obligations.AbsoluteJumps : Prop :=
  (∀ s : State, s.cond .NZ = decide (s.f.getLsbD 7 = false) ∧ s.cond .Z = decide (s.f.getLsbD 7 = true) ∧
    s.cond .NC = decide (s.f.getLsbD 4 = false) ∧ s.cond .C = decide (s.f.getLsbD 4 = true)) ∧
  (∀ (aa : Word) (s : State),
    EncodedAs (.jp_a16 aa) [0xC3, aa.extractLsb' 0 8, aa.extractLsb' 8 8] ∧
    exec (.jp_a16 aa) s = .next { s with pc := aa }) ∧
  (∀ (i : Instr) (cc : Cond) (aa : Word) (s : State), i.form = .jp_cc cc aa →
    EncodedAs i [BitVec.ofNat 8 (0xC2 + 8 * cc.code), aa.extractLsb' 0 8, aa.extractLsb' 8 8] ∧
    exec i s = .next { s with pc := if s.cond cc then aa else s.pc }) ∧
  (∀ s : State,
    EncodedAs .jp_HL [0xE9] ∧ exec .jp_HL s = .next { s with pc := s.h ++ s.l })

/-- `JR e8` (R224) and `JR cc,e8` (R225): the base is the address after the two bytes; PC alone changes. -/
def Obligations.RelativeJumps : Prop :=
  (∀ (e : Byte) (s : State),
    EncodedAs (.jr_e8 e) [0x18, e] ∧ ∃ t : State, exec (.jr_e8 e) s = .next t ∧
      t.pc.toInt = (s.pc.toInt + e.toInt).bmod (2 ^ 16) ∧ t = { s with pc := t.pc }) ∧
  (∀ (i : Instr) (cc : Cond) (e : Byte) (s : State), i.form = .jr_cc cc e →
    EncodedAs i [BitVec.ofNat 8 (0x20 + 8 * cc.code), e] ∧ ∃ t : State, exec i s = .next t ∧
      t.pc.toInt = (if s.cond cc then (s.pc.toInt + e.toInt).bmod (2 ^ 16) else s.pc.toInt) ∧ t = { s with pc := t.pc })

/-- `CALL a16` (R226), `CALL cc,a16` (R227), `RST t` (R231): the word pushed is the address after the instruction; a
call whose condition fails does nothing. -/
def Obligations.Calls : Prop :=
  (∀ (aa : Word) (s : State),
    EncodedAs (.call_a16 aa) [0xCD, aa.extractLsb' 0 8, aa.extractLsb' 8 8] ∧
    ∃ t, exec (.call_a16 aa) s = .next t ∧ t.pc = aa ∧ t.sp = s.sp - 2 ∧
      StoresTwo (s.sp - 1) (s.pc.extractLsb' 8 8) (s.sp - 2) (s.pc.extractLsb' 0 8) s t ∧
      SameRegs [] s t ∧ SameFlags [] s t ∧ SameMode s t) ∧
  (∀ (i : Instr) (cc : Cond) (aa : Word) (s : State), i.form = .call_cc cc aa →
    EncodedAs i [BitVec.ofNat 8 (0xC4 + 8 * cc.code), aa.extractLsb' 0 8, aa.extractLsb' 8 8] ∧
    (s.cond cc = true → ∃ t, exec i s = .next t ∧ t.pc = aa ∧ t.sp = s.sp - 2 ∧
      StoresTwo (s.sp - 1) (s.pc.extractLsb' 8 8) (s.sp - 2) (s.pc.extractLsb' 0 8) s t ∧
      SameRegs [] s t ∧ SameFlags [] s t ∧ SameMode s t) ∧
    (s.cond cc = false → exec i s = .next s)) ∧
  (∀ (i : Instr) (n : Fin 8) (s : State), i.form = .rst n →
    EncodedAs i [BitVec.ofNat 8 (0xC7 + 8 * n.val)] ∧
    ∃ t, exec i s = .next t ∧ t.pc = BitVec.ofNat 16 (8 * n.val) ∧ t.sp = s.sp - 2 ∧
      StoresTwo (s.sp - 1) (s.pc.extractLsb' 8 8) (s.sp - 2) (s.pc.extractLsb' 0 8) s t ∧
      SameRegs [] s t ∧ SameFlags [] s t ∧ SameMode s t)

/-- `RET` (R228) and `RET cc` (R229): nothing but PC and SP changes, and nothing at all where the condition fails. -/
def Obligations.Returns : Prop :=
  (∀ s : State,
    EncodedAs .ret [0xC9] ∧
    exec .ret s = .next { s with pc := s.read (s.sp + 1) ++ s.read s.sp, sp := s.sp + 2 }) ∧
  (∀ (i : Instr) (cc : Cond) (s : State), i.form = .ret_cc cc →
    EncodedAs i [BitVec.ofNat 8 (0xC0 + 8 * cc.code)] ∧
    (s.cond cc = true → exec i s = .next { s with pc := s.read (s.sp + 1) ++ s.read s.sp, sp := s.sp + 2 }) ∧
    (s.cond cc = false → exec i s = .next s))

/-! ## NOP, HALT, DI, EI, RETI (46_misc.md, 45_control.md) -/

/-- `NOP` (R250), `HALT` (R251), `DI` (R252), `EI` (R253), `RETI` (R230): each has its effect at once, on that state
alone. That HALT looks at nothing is the spec's decision D21, the IME bit D8, that RETI is RET plus IME D16. -/
def Obligations.MachineControl : Prop :=
  (∀ s : State, EncodedAs .nop [0x00] ∧ exec .nop s = .next s) ∧
  (∀ s : State, EncodedAs .halt [0x76] ∧ exec .halt s = .next { s with execState := .halted }) ∧
  (∀ s : State, EncodedAs .di [0xF3] ∧ exec .di s = .next { s with ime := false }) ∧
  (∀ s : State, EncodedAs .ei [0xFB] ∧ exec .ei s = .next { s with ime := true }) ∧
  (∀ s : State, EncodedAs .reti [0xD9] ∧
    exec .reti s = .next { s with pc := s.read (s.sp + 1) ++ s.read s.sp, sp := s.sp + 2, ime := true })
end

