-- ==== Sys2Proof/Laws/State.lean ====
section
/-! SUPPORT. What each update of the state leaves in each field: one lemma a field, so that no later proof unfolds an
update. -/

namespace Sys2Proof.Machine

variable (s : State)

/-! `warn` -/

@[simp] theorem State.warn_a (x : Word) (k : WarningKind) : (s.warn x k).a = s.a := rfl
@[simp] theorem State.warn_f (x : Word) (k : WarningKind) : (s.warn x k).f = s.f := rfl
@[simp] theorem State.warn_b (x : Word) (k : WarningKind) : (s.warn x k).b = s.b := rfl
@[simp] theorem State.warn_c (x : Word) (k : WarningKind) : (s.warn x k).c = s.c := rfl
@[simp] theorem State.warn_d (x : Word) (k : WarningKind) : (s.warn x k).d = s.d := rfl
@[simp] theorem State.warn_e (x : Word) (k : WarningKind) : (s.warn x k).e = s.e := rfl
@[simp] theorem State.warn_h (x : Word) (k : WarningKind) : (s.warn x k).h = s.h := rfl
@[simp] theorem State.warn_l (x : Word) (k : WarningKind) : (s.warn x k).l = s.l := rfl
@[simp] theorem State.warn_sp (x : Word) (k : WarningKind) : (s.warn x k).sp = s.sp := rfl
@[simp] theorem State.warn_pc (x : Word) (k : WarningKind) : (s.warn x k).pc = s.pc := rfl
@[simp] theorem State.warn_execState (x : Word) (k : WarningKind) : (s.warn x k).execState = s.execState := rfl
@[simp] theorem State.warn_ime (x : Word) (k : WarningKind) : (s.warn x k).ime = s.ime := rfl
@[simp] theorem State.warn_mem (x : Word) (k : WarningKind) : (s.warn x k).mem = s.mem := rfl

@[simp] theorem State.warn_log (x : Word) (k : WarningKind) : (s.warn x k).log = s.log ++ [⟨x, k⟩] := rfl

/-! `write`, `write16` and `writeHL`: memory and the log only -/

@[simp] theorem State.write_a (x : Word) (v : Byte) : (s.write x v).a = s.a := by
  unfold State.write; split <;> rfl
@[simp] theorem State.write_f (x : Word) (v : Byte) : (s.write x v).f = s.f := by
  unfold State.write; split <;> rfl
@[simp] theorem State.write_b (x : Word) (v : Byte) : (s.write x v).b = s.b := by
  unfold State.write; split <;> rfl
@[simp] theorem State.write_c (x : Word) (v : Byte) : (s.write x v).c = s.c := by
  unfold State.write; split <;> rfl
@[simp] theorem State.write_d (x : Word) (v : Byte) : (s.write x v).d = s.d := by
  unfold State.write; split <;> rfl
@[simp] theorem State.write_e (x : Word) (v : Byte) : (s.write x v).e = s.e := by
  unfold State.write; split <;> rfl
@[simp] theorem State.write_h (x : Word) (v : Byte) : (s.write x v).h = s.h := by
  unfold State.write; split <;> rfl
@[simp] theorem State.write_l (x : Word) (v : Byte) : (s.write x v).l = s.l := by
  unfold State.write; split <;> rfl
@[simp] theorem State.write_sp (x : Word) (v : Byte) : (s.write x v).sp = s.sp := by
  unfold State.write; split <;> rfl
@[simp] theorem State.write_pc (x : Word) (v : Byte) : (s.write x v).pc = s.pc := by
  unfold State.write; split <;> rfl
@[simp] theorem State.write_execState (x : Word) (v : Byte) : (s.write x v).execState = s.execState := by
  unfold State.write; split <;> rfl
@[simp] theorem State.write_ime (x : Word) (v : Byte) : (s.write x v).ime = s.ime := by
  unfold State.write; split <;> rfl

@[simp] theorem State.write16_a (x w : Word) : (s.write16 x w).a = s.a := by
  simp [State.write16]
@[simp] theorem State.write16_f (x w : Word) : (s.write16 x w).f = s.f := by
  simp [State.write16]
@[simp] theorem State.write16_b (x w : Word) : (s.write16 x w).b = s.b := by
  simp [State.write16]
@[simp] theorem State.write16_c (x w : Word) : (s.write16 x w).c = s.c := by
  simp [State.write16]
@[simp] theorem State.write16_d (x w : Word) : (s.write16 x w).d = s.d := by
  simp [State.write16]
@[simp] theorem State.write16_e (x w : Word) : (s.write16 x w).e = s.e := by
  simp [State.write16]
@[simp] theorem State.write16_h (x w : Word) : (s.write16 x w).h = s.h := by
  simp [State.write16]
@[simp] theorem State.write16_l (x w : Word) : (s.write16 x w).l = s.l := by
  simp [State.write16]
@[simp] theorem State.write16_sp (x w : Word) : (s.write16 x w).sp = s.sp := by
  simp [State.write16]
@[simp] theorem State.write16_pc (x w : Word) : (s.write16 x w).pc = s.pc := by
  simp [State.write16]
@[simp] theorem State.write16_execState (x w : Word) : (s.write16 x w).execState = s.execState := by
  simp [State.write16]
@[simp] theorem State.write16_ime (x w : Word) : (s.write16 x w).ime = s.ime := by
  simp [State.write16]

@[simp] theorem State.writeHL_a (v : Byte) : (s.writeHL v).a = s.a := by
  simp [State.writeHL]
@[simp] theorem State.writeHL_f (v : Byte) : (s.writeHL v).f = s.f := by
  simp [State.writeHL]
@[simp] theorem State.writeHL_b (v : Byte) : (s.writeHL v).b = s.b := by
  simp [State.writeHL]
@[simp] theorem State.writeHL_c (v : Byte) : (s.writeHL v).c = s.c := by
  simp [State.writeHL]
@[simp] theorem State.writeHL_d (v : Byte) : (s.writeHL v).d = s.d := by
  simp [State.writeHL]
@[simp] theorem State.writeHL_e (v : Byte) : (s.writeHL v).e = s.e := by
  simp [State.writeHL]
@[simp] theorem State.writeHL_h (v : Byte) : (s.writeHL v).h = s.h := by
  simp [State.writeHL]
@[simp] theorem State.writeHL_l (v : Byte) : (s.writeHL v).l = s.l := by
  simp [State.writeHL]
@[simp] theorem State.writeHL_sp (v : Byte) : (s.writeHL v).sp = s.sp := by
  simp [State.writeHL]
@[simp] theorem State.writeHL_pc (v : Byte) : (s.writeHL v).pc = s.pc := by
  simp [State.writeHL]
@[simp] theorem State.writeHL_execState (v : Byte) : (s.writeHL v).execState = s.execState := by
  simp [State.writeHL]
@[simp] theorem State.writeHL_ime (v : Byte) : (s.writeHL v).ime = s.ime := by
  simp [State.writeHL]

/-! `set8` and `setR`: the register file only -/

@[simp] theorem State.set8_sp (r : Reg8) (v : Byte) : (s.set8 r v).sp = s.sp := by
  cases r <;> rfl
@[simp] theorem State.set8_pc (r : Reg8) (v : Byte) : (s.set8 r v).pc = s.pc := by
  cases r <;> rfl
@[simp] theorem State.set8_execState (r : Reg8) (v : Byte) : (s.set8 r v).execState = s.execState := by
  cases r <;> rfl
@[simp] theorem State.set8_ime (r : Reg8) (v : Byte) : (s.set8 r v).ime = s.ime := by
  cases r <;> rfl
@[simp] theorem State.set8_mem (r : Reg8) (v : Byte) : (s.set8 r v).mem = s.mem := by
  cases r <;> rfl
@[simp] theorem State.set8_log (r : Reg8) (v : Byte) : (s.set8 r v).log = s.log := by
  cases r <;> rfl

@[simp] theorem State.setR_f (r : RField) (v : Byte) : (s.setR r v).f = s.f := by
  cases r <;> rfl
@[simp] theorem State.setR_sp (r : RField) (v : Byte) : (s.setR r v).sp = s.sp := by
  cases r <;> rfl
@[simp] theorem State.setR_pc (r : RField) (v : Byte) : (s.setR r v).pc = s.pc := by
  cases r <;> rfl
@[simp] theorem State.setR_execState (r : RField) (v : Byte) : (s.setR r v).execState = s.execState := by
  cases r <;> rfl
@[simp] theorem State.setR_ime (r : RField) (v : Byte) : (s.setR r v).ime = s.ime := by
  cases r <;> rfl
@[simp] theorem State.setR_mem (r : RField) (v : Byte) : (s.setR r v).mem = s.mem := by
  cases r <;> rfl
@[simp] theorem State.setR_log (r : RField) (v : Byte) : (s.setR r v).log = s.log := by
  cases r <;> rfl

/-! `set16`: SP and PC only where named -/

@[simp] theorem State.set16_execState (r : Reg16) (w : Word) : (s.set16 r w).execState = s.execState := by
  cases r <;> rfl
@[simp] theorem State.set16_ime (r : Reg16) (w : Word) : (s.set16 r w).ime = s.ime := by
  cases r <;> rfl
@[simp] theorem State.set16_mem (r : Reg16) (w : Word) : (s.set16 r w).mem = s.mem := by
  cases r <;> rfl
@[simp] theorem State.set16_log (r : Reg16) (w : Word) : (s.set16 r w).log = s.log := by
  cases r <;> rfl

@[simp] theorem State.set16_sp (r : Reg16) (w : Word) : (s.set16 r w).sp = if r = .SP then w else s.sp := by
  cases r <;> rfl

@[simp] theorem State.set16_pc (r : Reg16) (w : Word) : (s.set16 r w).pc = if r = .PC then w else s.pc := by
  cases r <;> rfl

/-! `setFlag`, `updFlag`, `setFlags`: F only -/

@[simp] theorem State.setFlag_a (x : Flag) (v : Bool) : (s.setFlag x v).a = s.a := rfl
@[simp] theorem State.setFlag_b (x : Flag) (v : Bool) : (s.setFlag x v).b = s.b := rfl
@[simp] theorem State.setFlag_c (x : Flag) (v : Bool) : (s.setFlag x v).c = s.c := rfl
@[simp] theorem State.setFlag_d (x : Flag) (v : Bool) : (s.setFlag x v).d = s.d := rfl
@[simp] theorem State.setFlag_e (x : Flag) (v : Bool) : (s.setFlag x v).e = s.e := rfl
@[simp] theorem State.setFlag_h (x : Flag) (v : Bool) : (s.setFlag x v).h = s.h := rfl
@[simp] theorem State.setFlag_l (x : Flag) (v : Bool) : (s.setFlag x v).l = s.l := rfl
@[simp] theorem State.setFlag_sp (x : Flag) (v : Bool) : (s.setFlag x v).sp = s.sp := rfl
@[simp] theorem State.setFlag_pc (x : Flag) (v : Bool) : (s.setFlag x v).pc = s.pc := rfl
@[simp] theorem State.setFlag_execState (x : Flag) (v : Bool) : (s.setFlag x v).execState = s.execState := rfl
@[simp] theorem State.setFlag_ime (x : Flag) (v : Bool) : (s.setFlag x v).ime = s.ime := rfl
@[simp] theorem State.setFlag_mem (x : Flag) (v : Bool) : (s.setFlag x v).mem = s.mem := rfl
@[simp] theorem State.setFlag_log (x : Flag) (v : Bool) : (s.setFlag x v).log = s.log := rfl

@[simp] theorem State.updFlag_a (x : Flag) (o : Option Bool) : (s.updFlag x o).a = s.a := by
  cases o <;> rfl
@[simp] theorem State.updFlag_b (x : Flag) (o : Option Bool) : (s.updFlag x o).b = s.b := by
  cases o <;> rfl
@[simp] theorem State.updFlag_c (x : Flag) (o : Option Bool) : (s.updFlag x o).c = s.c := by
  cases o <;> rfl
@[simp] theorem State.updFlag_d (x : Flag) (o : Option Bool) : (s.updFlag x o).d = s.d := by
  cases o <;> rfl
@[simp] theorem State.updFlag_e (x : Flag) (o : Option Bool) : (s.updFlag x o).e = s.e := by
  cases o <;> rfl
@[simp] theorem State.updFlag_h (x : Flag) (o : Option Bool) : (s.updFlag x o).h = s.h := by
  cases o <;> rfl
@[simp] theorem State.updFlag_l (x : Flag) (o : Option Bool) : (s.updFlag x o).l = s.l := by
  cases o <;> rfl
@[simp] theorem State.updFlag_sp (x : Flag) (o : Option Bool) : (s.updFlag x o).sp = s.sp := by
  cases o <;> rfl
@[simp] theorem State.updFlag_pc (x : Flag) (o : Option Bool) : (s.updFlag x o).pc = s.pc := by
  cases o <;> rfl
@[simp] theorem State.updFlag_execState (x : Flag) (o : Option Bool) : (s.updFlag x o).execState = s.execState := by
  cases o <;> rfl
@[simp] theorem State.updFlag_ime (x : Flag) (o : Option Bool) : (s.updFlag x o).ime = s.ime := by
  cases o <;> rfl
@[simp] theorem State.updFlag_mem (x : Flag) (o : Option Bool) : (s.updFlag x o).mem = s.mem := by
  cases o <;> rfl
@[simp] theorem State.updFlag_log (x : Flag) (o : Option Bool) : (s.updFlag x o).log = s.log := by
  cases o <;> rfl

@[simp] theorem State.setFlags_a (u : FlagUpdate) : (s.setFlags u).a = s.a := by
  simp [State.setFlags]
@[simp] theorem State.setFlags_b (u : FlagUpdate) : (s.setFlags u).b = s.b := by
  simp [State.setFlags]
@[simp] theorem State.setFlags_c (u : FlagUpdate) : (s.setFlags u).c = s.c := by
  simp [State.setFlags]
@[simp] theorem State.setFlags_d (u : FlagUpdate) : (s.setFlags u).d = s.d := by
  simp [State.setFlags]
@[simp] theorem State.setFlags_e (u : FlagUpdate) : (s.setFlags u).e = s.e := by
  simp [State.setFlags]
@[simp] theorem State.setFlags_h (u : FlagUpdate) : (s.setFlags u).h = s.h := by
  simp [State.setFlags]
@[simp] theorem State.setFlags_l (u : FlagUpdate) : (s.setFlags u).l = s.l := by
  simp [State.setFlags]
@[simp] theorem State.setFlags_sp (u : FlagUpdate) : (s.setFlags u).sp = s.sp := by
  simp [State.setFlags]
@[simp] theorem State.setFlags_pc (u : FlagUpdate) : (s.setFlags u).pc = s.pc := by
  simp [State.setFlags]
@[simp] theorem State.setFlags_execState (u : FlagUpdate) : (s.setFlags u).execState = s.execState := by
  simp [State.setFlags]
@[simp] theorem State.setFlags_ime (u : FlagUpdate) : (s.setFlags u).ime = s.ime := by
  simp [State.setFlags]
@[simp] theorem State.setFlags_mem (u : FlagUpdate) : (s.setFlags u).mem = s.mem := by
  simp [State.setFlags]
@[simp] theorem State.setFlags_log (u : FlagUpdate) : (s.setFlags u).log = s.log := by
  simp [State.setFlags]

/-! `push16`, `pop16`, `fetch8`, `atStep` -/

@[simp] theorem State.push16_a (w : Word) : (s.push16 w).a = s.a := by
  simp [State.push16]
@[simp] theorem State.push16_f (w : Word) : (s.push16 w).f = s.f := by
  simp [State.push16]
@[simp] theorem State.push16_b (w : Word) : (s.push16 w).b = s.b := by
  simp [State.push16]
@[simp] theorem State.push16_c (w : Word) : (s.push16 w).c = s.c := by
  simp [State.push16]
@[simp] theorem State.push16_d (w : Word) : (s.push16 w).d = s.d := by
  simp [State.push16]
@[simp] theorem State.push16_e (w : Word) : (s.push16 w).e = s.e := by
  simp [State.push16]
@[simp] theorem State.push16_h (w : Word) : (s.push16 w).h = s.h := by
  simp [State.push16]
@[simp] theorem State.push16_l (w : Word) : (s.push16 w).l = s.l := by
  simp [State.push16]
@[simp] theorem State.push16_pc (w : Word) : (s.push16 w).pc = s.pc := by
  simp [State.push16]
@[simp] theorem State.push16_execState (w : Word) : (s.push16 w).execState = s.execState := by
  simp [State.push16]
@[simp] theorem State.push16_ime (w : Word) : (s.push16 w).ime = s.ime := by
  simp [State.push16]

@[simp] theorem State.push16_sp (w : Word) : (s.push16 w).sp = s.sp - 2 := by
  simp [State.push16, BitVec.sub_sub]

@[simp] theorem State.pop16_snd_a : (s.pop16.2).a = s.a := rfl
@[simp] theorem State.pop16_snd_f : (s.pop16.2).f = s.f := rfl
@[simp] theorem State.pop16_snd_b : (s.pop16.2).b = s.b := rfl
@[simp] theorem State.pop16_snd_c : (s.pop16.2).c = s.c := rfl
@[simp] theorem State.pop16_snd_d : (s.pop16.2).d = s.d := rfl
@[simp] theorem State.pop16_snd_e : (s.pop16.2).e = s.e := rfl
@[simp] theorem State.pop16_snd_h : (s.pop16.2).h = s.h := rfl
@[simp] theorem State.pop16_snd_l : (s.pop16.2).l = s.l := rfl
@[simp] theorem State.pop16_snd_pc : (s.pop16.2).pc = s.pc := rfl
@[simp] theorem State.pop16_snd_execState : (s.pop16.2).execState = s.execState := rfl
@[simp] theorem State.pop16_snd_ime : (s.pop16.2).ime = s.ime := rfl
@[simp] theorem State.pop16_snd_mem : (s.pop16.2).mem = s.mem := rfl
@[simp] theorem State.pop16_snd_log : (s.pop16.2).log = s.log := rfl

@[simp] theorem State.pop16_snd_sp : s.pop16.2.sp = s.sp + 2 := by
  simp [State.pop16, BitVec.add_assoc]

@[simp] theorem State.fetch8_snd_a : (s.fetch8.2).a = s.a := rfl
@[simp] theorem State.fetch8_snd_f : (s.fetch8.2).f = s.f := rfl
@[simp] theorem State.fetch8_snd_b : (s.fetch8.2).b = s.b := rfl
@[simp] theorem State.fetch8_snd_c : (s.fetch8.2).c = s.c := rfl
@[simp] theorem State.fetch8_snd_d : (s.fetch8.2).d = s.d := rfl
@[simp] theorem State.fetch8_snd_e : (s.fetch8.2).e = s.e := rfl
@[simp] theorem State.fetch8_snd_h : (s.fetch8.2).h = s.h := rfl
@[simp] theorem State.fetch8_snd_l : (s.fetch8.2).l = s.l := rfl
@[simp] theorem State.fetch8_snd_sp : (s.fetch8.2).sp = s.sp := rfl
@[simp] theorem State.fetch8_snd_execState : (s.fetch8.2).execState = s.execState := rfl
@[simp] theorem State.fetch8_snd_ime : (s.fetch8.2).ime = s.ime := rfl
@[simp] theorem State.fetch8_snd_mem : (s.fetch8.2).mem = s.mem := rfl
@[simp] theorem State.fetch8_snd_log : (s.fetch8.2).log = s.log := rfl

@[simp] theorem State.fetch8_snd_pc : s.fetch8.2.pc = s.pc + 1 := rfl

@[simp] theorem State.atStep_a (x : AtField) : (s.atStep x).a = s.a := by
  cases x <;> rfl
@[simp] theorem State.atStep_f (x : AtField) : (s.atStep x).f = s.f := by
  cases x <;> rfl
@[simp] theorem State.atStep_b (x : AtField) : (s.atStep x).b = s.b := by
  cases x <;> rfl
@[simp] theorem State.atStep_c (x : AtField) : (s.atStep x).c = s.c := by
  cases x <;> rfl
@[simp] theorem State.atStep_d (x : AtField) : (s.atStep x).d = s.d := by
  cases x <;> rfl
@[simp] theorem State.atStep_e (x : AtField) : (s.atStep x).e = s.e := by
  cases x <;> rfl
@[simp] theorem State.atStep_sp (x : AtField) : (s.atStep x).sp = s.sp := by
  cases x <;> rfl
@[simp] theorem State.atStep_pc (x : AtField) : (s.atStep x).pc = s.pc := by
  cases x <;> rfl
@[simp] theorem State.atStep_execState (x : AtField) : (s.atStep x).execState = s.execState := by
  cases x <;> rfl
@[simp] theorem State.atStep_ime (x : AtField) : (s.atStep x).ime = s.ime := by
  cases x <;> rfl
@[simp] theorem State.atStep_mem (x : AtField) : (s.atStep x).mem = s.mem := by
  cases x <;> rfl
@[simp] theorem State.atStep_log (x : AtField) : (s.atStep x).log = s.log := by
  cases x <;> rfl

/-! `wake`, `stopRequest`, `afterDecodeError`: one field each -/

@[simp] theorem State.wake_a : (wake s).a = s.a := by
  unfold wake; split <;> rfl
@[simp] theorem State.wake_f : (wake s).f = s.f := by
  unfold wake; split <;> rfl
@[simp] theorem State.wake_b : (wake s).b = s.b := by
  unfold wake; split <;> rfl
@[simp] theorem State.wake_c : (wake s).c = s.c := by
  unfold wake; split <;> rfl
@[simp] theorem State.wake_d : (wake s).d = s.d := by
  unfold wake; split <;> rfl
@[simp] theorem State.wake_e : (wake s).e = s.e := by
  unfold wake; split <;> rfl
@[simp] theorem State.wake_h : (wake s).h = s.h := by
  unfold wake; split <;> rfl
@[simp] theorem State.wake_l : (wake s).l = s.l := by
  unfold wake; split <;> rfl
@[simp] theorem State.wake_sp : (wake s).sp = s.sp := by
  unfold wake; split <;> rfl
@[simp] theorem State.wake_pc : (wake s).pc = s.pc := by
  unfold wake; split <;> rfl
@[simp] theorem State.wake_ime : (wake s).ime = s.ime := by
  unfold wake; split <;> rfl
@[simp] theorem State.wake_mem : (wake s).mem = s.mem := by
  unfold wake; split <;> rfl
@[simp] theorem State.wake_log : (wake s).log = s.log := by
  unfold wake; split <;> rfl

@[simp] theorem State.stopRequest_a : (stopRequest s).a = s.a := by
  unfold stopRequest; split <;> rfl
@[simp] theorem State.stopRequest_f : (stopRequest s).f = s.f := by
  unfold stopRequest; split <;> rfl
@[simp] theorem State.stopRequest_b : (stopRequest s).b = s.b := by
  unfold stopRequest; split <;> rfl
@[simp] theorem State.stopRequest_c : (stopRequest s).c = s.c := by
  unfold stopRequest; split <;> rfl
@[simp] theorem State.stopRequest_d : (stopRequest s).d = s.d := by
  unfold stopRequest; split <;> rfl
@[simp] theorem State.stopRequest_e : (stopRequest s).e = s.e := by
  unfold stopRequest; split <;> rfl
@[simp] theorem State.stopRequest_h : (stopRequest s).h = s.h := by
  unfold stopRequest; split <;> rfl
@[simp] theorem State.stopRequest_l : (stopRequest s).l = s.l := by
  unfold stopRequest; split <;> rfl
@[simp] theorem State.stopRequest_sp : (stopRequest s).sp = s.sp := by
  unfold stopRequest; split <;> rfl
@[simp] theorem State.stopRequest_pc : (stopRequest s).pc = s.pc := by
  unfold stopRequest; split <;> rfl
@[simp] theorem State.stopRequest_ime : (stopRequest s).ime = s.ime := by
  unfold stopRequest; split <;> rfl
@[simp] theorem State.stopRequest_mem : (stopRequest s).mem = s.mem := by
  unfold stopRequest; split <;> rfl
@[simp] theorem State.stopRequest_log : (stopRequest s).log = s.log := by
  unfold stopRequest; split <;> rfl

@[simp] theorem State.afterDecodeError_a : (s.afterDecodeError).a = s.a := rfl
@[simp] theorem State.afterDecodeError_f : (s.afterDecodeError).f = s.f := rfl
@[simp] theorem State.afterDecodeError_b : (s.afterDecodeError).b = s.b := rfl
@[simp] theorem State.afterDecodeError_c : (s.afterDecodeError).c = s.c := rfl
@[simp] theorem State.afterDecodeError_d : (s.afterDecodeError).d = s.d := rfl
@[simp] theorem State.afterDecodeError_e : (s.afterDecodeError).e = s.e := rfl
@[simp] theorem State.afterDecodeError_h : (s.afterDecodeError).h = s.h := rfl
@[simp] theorem State.afterDecodeError_l : (s.afterDecodeError).l = s.l := rfl
@[simp] theorem State.afterDecodeError_sp : (s.afterDecodeError).sp = s.sp := rfl
@[simp] theorem State.afterDecodeError_execState : (s.afterDecodeError).execState = s.execState := rfl
@[simp] theorem State.afterDecodeError_ime : (s.afterDecodeError).ime = s.ime := rfl
@[simp] theorem State.afterDecodeError_mem : (s.afterDecodeError).mem = s.mem := rfl
@[simp] theorem State.afterDecodeError_log : (s.afterDecodeError).log = s.log := rfl

@[simp] theorem State.afterDecodeError_pc : s.afterDecodeError.pc = s.pc + 1 := rfl

/-! inspection: each field of what the driver sees, and that IME is none of them (R17, log 15) -/

@[simp] theorem State.inspect_a : s.inspect.a = s.a := rfl
@[simp] theorem State.inspect_f : s.inspect.f = s.f := rfl
@[simp] theorem State.inspect_b : s.inspect.b = s.b := rfl
@[simp] theorem State.inspect_c : s.inspect.c = s.c := rfl
@[simp] theorem State.inspect_d : s.inspect.d = s.d := rfl
@[simp] theorem State.inspect_e : s.inspect.e = s.e := rfl
@[simp] theorem State.inspect_h : s.inspect.h = s.h := rfl
@[simp] theorem State.inspect_l : s.inspect.l = s.l := rfl
@[simp] theorem State.inspect_sp : s.inspect.sp = s.sp := rfl
@[simp] theorem State.inspect_pc : s.inspect.pc = s.pc := rfl
@[simp] theorem State.inspect_execState : s.inspect.execState = s.execState := rfl
@[simp] theorem State.inspect_mem : s.inspect.mem = s.mem := rfl
@[simp] theorem State.inspect_log : s.inspect.log = s.log := rfl
@[simp] theorem State.inspect_with_ime (b : Bool) : ({ s with ime := b } : State).inspect = s.inspect := rfl

/-! Reading a register after a register was written (R11, R12) -/

@[simp] theorem State.get8_set8_same (r : Reg8) (v : Byte) :
    (s.set8 r v).get8 r = if r = .F then v &&& 0xF0 else v := by
  cases r <;> rfl

theorem State.get8_set8_other {r q : Reg8} (v : Byte) (h : q ≠ r) : (s.set8 r v).get8 q = s.get8 q := by
  cases r <;> cases q <;> first | rfl | exact absurd rfl h

theorem RField.reg_ne_F (r : RField) : r.reg ≠ .F := by cases r <;> decide

@[simp] theorem State.get8_setR_same (r : RField) (v : Byte) : (s.setR r v).get8 r.reg = v := by
  cases r <;> rfl

theorem State.get8_setR_other {r : RField} {q : Reg8} (v : Byte) (h : q ≠ r.reg) :
    (s.setR r v).get8 q = s.get8 q := s.get8_set8_other v h

/-- The register file of a state whose registers agree. -/
theorem State.get8_congr {s t : State} (ha : t.a = s.a) (hf : t.f = s.f) (hb : t.b = s.b) (hc : t.c = s.c)
    (hd : t.d = s.d) (he : t.e = s.e) (hh : t.h = s.h) (hl : t.l = s.l) (r : Reg8) : t.get8 r = s.get8 r := by
  cases r <;> assumption

/-- A pair reads back what was written to it; for AF the low nibble is masked (R11, R12). -/
theorem State.get16_set16_same (r : Reg16) (w : Word) :
    (s.set16 r w).get16 r = if r = .AF then word (hi w) (lo w &&& 0xF0) else w := by
  cases r <;> simp [State.set16, State.get16, State.set8, State.get8]

@[simp] theorem State.get16_warn (r : Reg16) (x : Word) (k : WarningKind) : (s.warn x k).get16 r = s.get16 r := by
  cases r <;> rfl

@[simp] theorem State.get8_warn (r : Reg8) (x : Word) (k : WarningKind) : (s.warn x k).get8 r = s.get8 r := by
  cases r <;> rfl

@[simp] theorem State.get8_write (r : Reg8) (x : Word) (v : Byte) : (s.write x v).get8 r = s.get8 r := by
  cases r <;> simp [State.get8]

@[simp] theorem State.get16_write (r : Reg16) (x : Word) (v : Byte) : (s.write x v).get16 r = s.get16 r := by
  cases r <;> simp [State.get16]

@[simp] theorem State.get8_push16 (r : Reg8) (w : Word) : (s.push16 w).get8 r = s.get8 r := by
  cases r <;> simp [State.get8]

@[simp] theorem State.get8_pop16 (r : Reg8) : s.pop16.2.get8 r = s.get8 r := by
  cases r <;> rfl

theorem State.get8_setFlags {r : Reg8} (u : FlagUpdate) (h : r ≠ .F) : (s.setFlags u).get8 r = s.get8 r := by
  cases r <;> simp [State.get8] at h ⊢

end Sys2Proof.Machine
end

