-- ==== Sys2Proof/Laws/Flags.lean ====
section
/-! SUPPORT. The laws of the flag register: each flag after an update, the low nibble, and the F register kept in range. -/

namespace Sys2Proof.Machine

/-- What an update says about one flag. -/
def FlagUpdate.get (u : FlagUpdate) : Flag → Option Bool
  | .Z => u.z
  | .N => u.n
  | .H => u.h
  | .C => u.c

theorem getLsbD_putFlag (f : Byte) (x y : Flag) (v : Bool) :
    (putFlag f x v).getLsbD y.bit = if y = x then v else f.getLsbD y.bit := by
  cases x <;> cases y <;> cases v <;> revert f <;> decide

theorem lowNibble_putFlag (f : Byte) (x : Flag) (v : Bool) : putFlag f x v &&& 0x0F = f &&& 0x0F := by
  cases x <;> cases v <;> revert f <;> decide

@[simp] theorem State.getFlag_setFlag (s : State) (x y : Flag) (v : Bool) :
    (s.setFlag x v).getFlag y = if y = x then v else s.getFlag y := getLsbD_putFlag s.f x y v

theorem State.getFlag_updFlag (s : State) (x y : Flag) (o : Option Bool) :
    (s.updFlag x o).getFlag y = if y = x then o.getD (s.getFlag y) else s.getFlag y := by
  cases o
  · simp [State.updFlag]
  · simp [State.updFlag]

/-- Each flag after an update: the value it names, or what it was (R81). -/
theorem State.getFlag_setFlags (s : State) (u : FlagUpdate) (y : Flag) :
    (s.setFlags u).getFlag y = (u.get y).getD (s.getFlag y) := by
  cases y <;> simp [State.setFlags, State.getFlag_updFlag, FlagUpdate.get]

theorem State.lowNibble_updFlag (s : State) (x : Flag) (o : Option Bool) : (s.updFlag x o).f &&& 0x0F = s.f &&& 0x0F := by
  cases o
  · rfl
  · exact lowNibble_putFlag s.f x _

/-- No flag update touches bits 3 to 0 of F (R12, R13). -/
theorem State.lowNibble_setFlags (s : State) (u : FlagUpdate) : (s.setFlags u).f &&& 0x0F = s.f &&& 0x0F := by
  simp only [State.setFlags, State.lowNibble_updFlag]

/-- Flags read off a state whose F agrees. -/
theorem State.getFlag_congr {s t : State} (h : t.f = s.f) (x : Flag) : t.getFlag x = s.getFlag x := by
  simp only [State.getFlag, h]

theorem lowNibble_mask (v : Byte) : v &&& 0xF0 &&& 0x0F = 0 := by
  revert v; decide

/-- Writing any register keeps `F[3:0] = 0` (R12). -/
theorem State.lowNibble_set8 {s : State} (r : Reg8) (v : Byte) (h : s.f &&& 0x0F = 0) :
    (s.set8 r v).f &&& 0x0F = 0 := by
  cases r <;> first | exact h | exact lowNibble_mask v

theorem State.lowNibble_set16 {s : State} (r : Reg16) (w : Word) (h : s.f &&& 0x0F = 0) :
    (s.set16 r w).f &&& 0x0F = 0 := by
  cases r <;> first | exact h | exact State.lowNibble_set8 _ _ (State.lowNibble_set8 _ _ h)

end Sys2Proof.Machine
end

