-- ==== Sys2Proof/Laws/Forms.lean ====
section
/-! SUPPORT. Every arm of `exec` as one shared operation of the instruction's kind: a proof about all instructions goes
by the kinds of `Form`, not by the rows of the table. -/

namespace Sys2Proof

open Machine (State)

/-- What an instruction of each kind does to the state; for a value with no entry, nothing. -/
def Form.run : Form → State → State
  | .ld_r_r d r, s => Machine.loadRegReg d r s
  | .ld_r_d8 d n, s => Machine.loadRegImm d n s
  | .ld_r_atHL d, s => Machine.loadRegHL d s
  | .ld_atHL_r r, s => Machine.storeHLReg r s
  | .ld_atHL_d8 n, s => Machine.storeHLImm n s
  | .ld_A_at x, s => Machine.loadAAt x s
  | .ld_at_A x, s => Machine.storeAtA x s
  | .ld_A_atA16 aa, s => Machine.loadADirect aa s
  | .ld_atA16_A aa, s => Machine.storeADirect aa s
  | .ldh_A_atA8 a, s => Machine.loadAHigh a s
  | .ldh_atA8_A a, s => Machine.storeAHigh a s
  | .ldh_A_atC, s => Machine.loadAHighC s
  | .ldh_atC_A, s => Machine.storeAHighC s
  | .ld_rr_d16 rr nn, s => Machine.loadPairImm rr nn s
  | .ld_atA16_SP aa, s => Machine.storeSPDirect aa s
  | .ld_SP_HL, s => Machine.loadSPHL s
  | .ld_HL_SPe8 e, s => Machine.loadHLSPe8 e s
  | .push rr, s => Machine.pushPair rr s
  | .pop rr, s => Machine.popPair rr s
  | .alu_r op r, s => Machine.aluReg op r s
  | .alu_atHL op, s => Machine.aluHL op s
  | .alu_d8 op n, s => Machine.aluImm op n s
  | .inc_r r, s => Machine.incReg r s
  | .inc_atHL, s => Machine.incHL s
  | .dec_r r, s => Machine.decReg r s
  | .dec_atHL, s => Machine.decHL s
  | .daa, s => Machine.daa s
  | .cpl, s => Machine.cpl s
  | .scf, s => Machine.scf s
  | .ccf, s => Machine.ccf s
  | .add_HL_rr rr, s => Machine.addHLPair rr s
  | .inc_rr rr, s => Machine.incPair rr s
  | .dec_rr rr, s => Machine.decPair rr s
  | .add_SP_e8 e, s => Machine.addSP e s
  | .rlca, s => Machine.rotA .rlc s
  | .rla, s => Machine.rotA .rl s
  | .rrca, s => Machine.rotA .rrc s
  | .rra, s => Machine.rotA .rr s
  | .rot_r op r, s => Machine.rotReg op r s
  | .rot_atHL op, s => Machine.rotHL op s
  | .bit_b_r b r, s => Machine.bitReg b r s
  | .bit_b_atHL b, s => Machine.bitHL b s
  | .res_b_r b r, s => Machine.resReg b r s
  | .res_b_atHL b, s => Machine.resHL b s
  | .set_b_r b r, s => Machine.setReg b r s
  | .set_b_atHL b, s => Machine.setHL b s
  | .jp aa, s => Machine.jump aa s
  | .jp_cc cc aa, s => Machine.jumpIf cc aa s
  | .jp_HL, s => Machine.jumpHL s
  | .jr e, s => Machine.jumpRel e s
  | .jr_cc cc e, s => Machine.jumpRelIf cc e s
  | .call aa, s => Machine.call aa s
  | .call_cc cc aa, s => Machine.callIf cc aa s
  | .ret, s => Machine.ret s
  | .ret_cc cc, s => Machine.retIf cc s
  | .reti, s => Machine.reti s
  | .rst t, s => Machine.rst t s
  | .nop, s => Machine.nop s
  | .halt, s => Machine.halt s
  | .di, s => Machine.di s
  | .ei, s => Machine.ei s
  | .cbPrefix opcode2, s => Machine.runCB opcode2 s
  | .noEntry _, s => s

/-- The kinds that are entries of the table: all but the values with no entry (R80, R255, R256). -/
def Form.hasEntry : Form → Bool
  | .noEntry _ => false
  | _ => true

end Sys2Proof

namespace Sys2Proof.Machine

/-- `exec` by kind: the value with no entry raises DecodeError, every other instruction completes. -/
theorem exec_eq_run (i : Instr) (s : State) :
    exec i s = match i.form with
      | .noEntry op => raiseDecodeError op s
      | f => .next (f.run s) := by
  cases i <;> rfl

/-- Every instruction with an entry completes, and this is its next state. -/
theorem exec_next (i : Instr) (s : State) (h : i.form.hasEntry = true) : exec i s = .next (i.form.run s) := by
  rw [exec_eq_run]
  cases hf : i.form <;> first | rfl | (rw [hf] at h; cases h)

/-- The next state of an instruction of a given kind. -/
theorem exec_of_form {i : Instr} {f : Form} (h : i.form = f) (hf : f.hasEntry = true) (s : State) :
    exec i s = .next (f.run s) := by
  subst h
  exact exec_next i s hf

/-- What is known of an instruction that answered a next state. -/
theorem next_of_exec {i : Instr} {s t : State} (h : exec i s = .next t) : i.form.hasEntry = true ∧ t = i.form.run s := by
  rw [exec_eq_run] at h
  cases hf : i.form <;> rw [hf] at h <;> first | (cases h; exact ⟨rfl, rfl⟩) | cases h

/-- What is known of an instruction that faulted. -/
theorem fault_of_exec {i : Instr} {s : State} {r : Fault} (h : exec i s = .fault r) :
    ∃ op, i.form = .noEntry op ∧ r = .decodeError op (s.pc - 1) := by
  rw [exec_eq_run] at h
  cases hf : i.form <;> rw [hf] at h <;> first | cases h; done | (cases h; exact ⟨_, rfl, rfl⟩)

/-- No instruction is refused. -/
theorem exec_not_refused (i : Instr) (s : State) (r : Refusal) : exec i s ≠ .refused r := by
  rw [exec_eq_run]
  cases i.form <;> (intro h; cases h)

end Sys2Proof.Machine
end

