-- ==== Sys2Proof/Laws/Memory.lean ====
section
/-! SUPPORT. The laws of the backing stores and the bus: a read after a write, every other address left alone, and the
canonical form kept by every memory operation. -/

namespace Sys2Proof.Machine


/-! The rows of the region table (R41). -/

theorem region_eq_rom {a : Word} : region a = .rom ↔ a ≤ 0x3FFF := by
  unfold region
  split_ifs <;> simp_all

theorem region_eq_vram {a : Word} : region a = .vram ↔ 0x8000 ≤ a ∧ a ≤ 0x9FFF := by
  unfold region
  split_ifs with h1 h2 h3 <;> simp <;> bv_omega

theorem region_eq_wram {a : Word} : region a = .wram ↔ 0xC000 ≤ a ∧ a ≤ 0xCFFF := by
  unfold region
  split_ifs with h1 h2 h3 <;> simp <;> bv_omega

theorem region_eq_unmapped {a : Word} :
    region a = .unmapped ↔ (0x4000 ≤ a ∧ a ≤ 0x7FFF) ∨ (0xA000 ≤ a ∧ a ≤ 0xBFFF) ∨ 0xD000 ≤ a := by
  unfold region
  split_ifs with h1 h2 h3 <;> simp <;> bv_omega

/-! ## Reading the stores after a change -/

theorem Memory.get_erase_same (m : Memory) (a : Word) : (m.erase a).get a = unlisted a := by
  induction m with
  | nil => rfl
  | cons c rest ih =>
    by_cases h : c.1 = a.toNat
    · simpa [Memory.erase, h] using ih
    · have : Memory.erase (c :: rest) a = c :: Memory.erase rest a := by simp [Memory.erase, h]
      rw [this]
      simpa [Memory.get, h] using ih

theorem Memory.get_erase_other (m : Memory) {a b : Word} (hab : b ≠ a) : (m.erase a).get b = m.get b := by
  have hne : a.toNat ≠ b.toNat := fun h => hab (BitVec.eq_of_toNat_eq h.symm)
  induction m with
  | nil => rfl
  | cons c rest ih =>
    by_cases h : c.1 = a.toNat
    · have : Memory.erase (c :: rest) a = Memory.erase rest a := by simp [Memory.erase, h]
      rw [this, ih]
      simp [Memory.get, h, hne]
    · have : Memory.erase (c :: rest) a = c :: Memory.erase rest a := by simp [Memory.erase, h]
      rw [this]
      simp only [Memory.get, ih]

theorem Memory.mem_erase {m : Memory} {a : Word} {c : Host.Cell} : c ∈ m.erase a ↔ c ∈ m ∧ c.1 ≠ a.toNat := by
  simp [Memory.erase]

theorem Memory.get_insertCell {m : Memory} {c : Host.Cell} (a : Word) (h : ∀ d ∈ m, d.1 ≠ c.1) :
    (m.insertCell c).get a = if c.1 = a.toNat then c.2 else m.get a := by
  induction m with
  | nil => rfl
  | cons d rest ih =>
    have hd : d.1 ≠ c.1 := h d (by simp)
    have ih := ih fun e he => h e (by simp [he])
    simp only [Memory.insertCell]
    split
    · rfl
    · simp only [Memory.get, ih]
      split
      · rename_i h1
        rw [if_neg fun h2 => hd (h1.trans h2.symm)]
      · rfl

theorem Memory.get_put_same (m : Memory) {a : Word} (v : Byte) (h : region a ≠ .unmapped) : (m.put a v).get a = v := by
  unfold Memory.put
  split
  · rename_i hv
    rw [Memory.get_erase_same]
    exact (hv.resolve_right h).symm
  · rw [Memory.get_insertCell _ fun d hd => (Memory.mem_erase.1 hd).2]
    simp

theorem Memory.get_put_other (m : Memory) {a b : Word} (v : Byte) (h : b ≠ a) : (m.put a v).get b = m.get b := by
  have hne : a.toNat ≠ b.toNat := fun e => h (BitVec.eq_of_toNat_eq e.symm)
  unfold Memory.put
  split
  · exact m.get_erase_other h
  · rw [Memory.get_insertCell _ fun d hd => (Memory.mem_erase.1 hd).2]
    simp [hne, m.get_erase_other h]

/-! ## Reading the bus after a change -/

/-- Memories that hold the same bytes are read alike. -/
theorem State.read_congr {s t : State} (h : t.mem = s.mem) (a : Word) : t.read a = s.read a := by
  simp only [State.read, h]

theorem State.read_unmapped (s : State) {a : Word} (h : region a = .unmapped) : s.read a = 0xFF := by
  simp [State.read, h, Config.openBus]

theorem State.read_mapped (s : State) {a : Word} (h : region a ≠ .unmapped) : s.read a = s.mem.get a := by
  unfold State.read
  cases hr : region a <;> simp_all

/-- Reading the written address: the byte where VRAM or WRAM owns it, else what it read before (R42, R43). -/
theorem State.read_write_same (s : State) (a : Word) (v : Byte) :
    (s.write a v).read a = if region a = .vram ∨ region a = .wram then v else s.read a := by
  unfold State.write
  cases hr : region a
  · rfl
  · simp [Region.writeWarning, State.read, hr, Memory.get_put_same]
  · simp [Region.writeWarning, State.read, hr, Memory.get_put_same]
  · rfl

theorem State.read_write_other (s : State) {a b : Word} (v : Byte) (h : b ≠ a) : (s.write a v).read b = s.read b := by
  unfold State.write
  cases hr : region a
  · rfl
  · simp only [Region.writeWarning, State.read, s.mem.get_put_other v h]
  · simp only [Region.writeWarning, State.read, s.mem.get_put_other v h]
  · rfl

theorem State.log_write (s : State) (a : Word) (v : Byte) : (s.write a v).log = s.log ++ warningsOf a := by
  unfold State.write warningsOf
  cases hr : region a <;> simp [Region.writeWarning]

/-- All that one bus write does (R43, R262). -/
theorem State.write_storesByte (s : State) (a : Word) (v : Byte) : StoresByte a v s (s.write a v) :=
  ⟨s.read_write_same a v, fun _ h => s.read_write_other v h, s.log_write a v⟩

/-- All that two bus writes at different addresses do. -/
theorem State.write_write_storesTwo (s : State) {a b : Word} (v w : Byte) (h : a ≠ b) :
    StoresTwo a v b w s ((s.write a v).write b w) := by
  refine ⟨?_, ?_, ?_, ?_⟩
  · rw [State.read_write_other _ _ h, State.read_write_same]
  · rw [State.read_write_same, State.read_write_other _ _ h.symm]
  · intro x hxa hxb
    rw [State.read_write_other _ _ hxb, State.read_write_other _ _ hxa]
  · rw [State.log_write, State.log_write]

theorem ne_add_one (a : Word) : a ≠ a + 1 := by
  intro h
  have := congrArg BitVec.toNat h
  have := a.isLt
  simp only [BitVec.toNat_add] at *
  have h1 : (1 : Word).toNat = 1 := rfl
  omega

/-- What the two-byte store of R131 does. -/
theorem State.write16_storesTwo (s : State) (a w : Word) : StoresTwo a (lo w) (a + 1) (hi w) s (s.write16 a w) :=
  s.write_write_storesTwo (lo w) (hi w) (ne_add_one a)

theorem sub_one_ne_sub_two (a : Word) : a - 1 ≠ a - 2 := by
  intro h
  have := congrArg BitVec.toNat h
  have := a.isLt
  simp only [BitVec.toNat_sub] at *
  have h1 : (1 : Word).toNat = 1 := rfl
  have h2 : (2 : Word).toNat = 2 := rfl
  omega

/-- `push16` as two bus writes. -/
theorem State.push16_eq (s : State) (w : Word) :
    s.push16 w = (({ s with sp := s.sp - 2 } : State).write (s.sp - 1) (hi w)).write (s.sp - 2) (lo w) := by
  have h2 : s.sp - 1 - 1 = s.sp - 2 := by rw [BitVec.sub_sub]; rfl
  simp only [State.push16, State.write_sp, h2]
  unfold State.write
  cases region (s.sp - 1) <;> cases region (s.sp - 2) <;> rfl

/-- The bytes `push16` stores (R47). -/
theorem State.push16_storesTwo (s : State) (w : Word) :
    StoresTwo (s.sp - 1) (hi w) (s.sp - 2) (lo w) s (s.push16 w) := by
  rw [State.push16_eq]
  exact State.write_write_storesTwo { s with sp := s.sp - 2 } _ _ (sub_one_ne_sub_two s.sp)

/-- The word `pop16` returns (R48). -/
theorem State.pop16_fst (s : State) : s.pop16.1 = word (s.read (s.sp + 1)) (s.read s.sp) := rfl

/-! ## The canonical form -/

theorem Memory.wfFrom_mono {m : Memory} {p q : Nat} (h : m.wfFrom q = true) (hpq : p ≤ q) : m.wfFrom p = true := by
  cases m with
  | nil => rfl
  | cons c rest =>
    simp only [Memory.wfFrom, Bool.and_eq_true, decide_eq_true_eq] at h ⊢
    exact ⟨⟨⟨⟨by omega, h.1.1.1.2⟩, h.1.1.2⟩, h.1.2⟩, h.2⟩

theorem Memory.wfFrom_erase {m : Memory} {p : Nat} (a : Word) (h : m.wfFrom p = true) : (m.erase a).wfFrom p = true := by
  induction m generalizing p with
  | nil => rfl
  | cons c rest ih =>
    simp only [Memory.wfFrom, Bool.and_eq_true, decide_eq_true_eq] at h
    by_cases hc : c.1 = a.toNat
    · have : Memory.erase (c :: rest) a = Memory.erase rest a := by simp [Memory.erase, hc]
      rw [this]
      exact Memory.wfFrom_mono (ih h.2) (by omega)
    · have : Memory.erase (c :: rest) a = c :: Memory.erase rest a := by simp [Memory.erase, hc]
      rw [this]
      simp only [Memory.wfFrom, Bool.and_eq_true, decide_eq_true_eq]
      exact ⟨h.1, ih h.2⟩

theorem Memory.wfFrom_insertCell {m : Memory} {p : Nat} {c : Host.Cell} (h : m.wfFrom p = true) (hp : p ≤ c.1)
    (hlt : c.1 < 65536) (hr : region (BitVec.ofNat 16 c.1) ≠ .unmapped) (hv : c.2 ≠ unlisted (BitVec.ofNat 16 c.1))
    (hne : ∀ d ∈ m, d.1 ≠ c.1) : (m.insertCell c).wfFrom p = true := by
  induction m generalizing p with
  | nil => simp [Memory.insertCell, Memory.wfFrom, hp, hlt, hr, hv]
  | cons d rest ih =>
    simp only [Memory.wfFrom, Bool.and_eq_true, decide_eq_true_eq] at h
    simp only [Memory.insertCell]
    split
    · simp only [Memory.wfFrom, Bool.and_eq_true, decide_eq_true_eq]
      exact ⟨⟨⟨⟨hp, hlt⟩, hr⟩, hv⟩, ⟨⟨⟨by omega, h.1.1.1.2⟩, h.1.1.2⟩, h.1.2⟩, h.2⟩
    · have hd : d.1 ≠ c.1 := hne d (by simp)
      simp only [Memory.wfFrom, Bool.and_eq_true, decide_eq_true_eq]
      exact ⟨h.1, ih h.2 (by omega) fun e he => hne e (by simp [he])⟩

/-- Placing a byte keeps the canonical form. -/
theorem Memory.wf_put {m : Memory} (a : Word) (v : Byte) (h : m.wf = true) : (m.put a v).wf = true := by
  unfold Memory.put
  split
  · exact Memory.wfFrom_erase a h
  · rename_i hv
    have ha : BitVec.ofNat 16 a.toNat = a := by simp
    exact Memory.wfFrom_insertCell (Memory.wfFrom_erase a h) (Nat.zero_le _) a.isLt
      (by rw [ha]; exact fun e => hv (.inr e)) (by rw [ha]; exact fun e => hv (.inl e))
      fun d hd => (Memory.mem_erase.1 hd).2

theorem State.wf_write {s : State} (a : Word) (v : Byte) (h : s.mem.wf = true) : (s.write a v).mem.wf = true := by
  unfold State.write
  split
  · exact Memory.wf_put a v h
  · exact h

theorem State.wf_write16 {s : State} (a w : Word) (h : s.mem.wf = true) : (s.write16 a w).mem.wf = true :=
  State.wf_write _ _ (State.wf_write _ _ h)

theorem State.wf_writeHL {s : State} (v : Byte) (h : s.mem.wf = true) : (s.writeHL v).mem.wf = true :=
  State.wf_write _ _ h

theorem State.wf_push16 {s : State} (w : Word) (h : s.mem.wf = true) : (s.push16 w).mem.wf = true := by
  rw [State.push16_eq]
  exact State.wf_write _ _ (State.wf_write _ _ h)

theorem Memory.wf_place {m : Memory} (a : Word) (bs : List Byte) (h : m.wf = true) : (m.place a bs).wf = true := by
  induction bs generalizing m a with
  | nil => exact h
  | cons v rest ih => exact ih _ (Memory.wf_put a v h)

/-- Reset memory has the canonical form. -/
theorem State.reset_wf : State.reset.mem.wf = true := rfl

/-! ## A ROM image -/

theorem region_rom {k : Nat} (h : k < 0x4000) : region (BitVec.ofNat 16 k) = .rom := by
  have : BitVec.ofNat 16 k ≤ 0x3FFF := by
    rw [BitVec.le_def, BitVec.toNat_ofNat, Nat.mod_eq_of_lt (by omega)]
    show k ≤ 0x3FFF
    omega
  exact if_pos this

theorem wfFrom_romCells (rom : Word → Byte) (n p : Nat) (h : p + n ≤ 0x4000) :
    Memory.wfFrom p (romCells rom n p) = true := by
  induction n generalizing p with
  | zero => rfl
  | succ n ih =>
    have ih := ih (p + 1) (by omega)
    have hr := region_rom (k := p) (by omega)
    unfold romCells
    split
    · exact Memory.wfFrom_mono ih (by omega)
    · rename_i hv
      simp only [Memory.wfFrom, Bool.and_eq_true, decide_eq_true_eq]
      exact ⟨⟨⟨⟨Nat.le_refl _, by omega⟩, by simp [hr]⟩, by simpa [unlisted, hr] using hv⟩, ih⟩

/-- An address outside a stretch of ROM cells reads as an unlisted one. -/
theorem get_romCells_outside (rom : Word → Byte) (n p : Nat) (a : Word) (ha : a.toNat < p ∨ p + n ≤ a.toNat) :
    Memory.get (romCells rom n p) a = unlisted a := by
  induction n generalizing p with
  | zero => rfl
  | succ n ih =>
    have ih := ih (p + 1) (by omega)
    have hne : p ≠ a.toNat := by omega
    unfold romCells
    split
    · exact ih
    · simpa [Memory.get, hne] using ih

/-- An address inside a stretch of ROM cells reads the image's byte. -/
theorem get_romCells_inside (rom : Word → Byte) (n p : Nat) (a : Word) (hn : p + n ≤ 0x4000) (hp : p ≤ a.toNat)
    (ha : a.toNat < p + n) : Memory.get (romCells rom n p) a = rom a := by
  induction n generalizing p with
  | zero => omega
  | succ n ih =>
    by_cases hpa : p = a.toNat
    · have hof : BitVec.ofNat 16 p = a := by rw [hpa]; simp
      have hr := region_rom (k := p) (by omega)
      unfold romCells
      rw [hof] at hr ⊢
      split
      · rename_i hv
        rw [get_romCells_outside rom n (p + 1) a (by omega), hv]
        simp [unlisted, hr]
      · simp [Memory.get, hpa]
    · have ih := ih (p + 1) (by omega) (by omega) (by omega)
      unfold romCells
      split
      · exact ih
      · simpa [Memory.get, hpa] using ih

theorem construct_mem (rom : Word → Byte) (r : ResetRegs) : (construct rom r).mem = romCells rom 0x4000 0 := rfl

/-- The memory that `construct` builds has the canonical form. -/
theorem wf_construct (rom : Word → Byte) (r : ResetRegs) : (construct rom r).mem.wf = true := by
  rw [construct_mem, Memory.wf]
  exact wfFrom_romCells rom 0x4000 0 (by omega)

end Sys2Proof.Machine
end

