-- ==== Sys2Proof/Laws/Step.lean ====
section
/-! SUPPORT. What fetching gives, what the two tables hold, and what a step is. -/

namespace Sys2Proof

/-! ## The tables -/

/-- An entry of the base table holds the instructions whose encoding begins with its opcode byte. -/
def OperandMode.Encodes (op : Byte) : OperandMode → Prop
  | .none i => encode i = [op] ∧ i.wellFormed = true
  | .d8 f | .e8 f | .a8 f => ∀ n, encode (f n) = [op, n] ∧ (f n).wellFormed = true
  | .d16 f | .a16 f => ∀ w, encode (f w) = [op, lo w, hi w] ∧ (f w).wellFormed = true
  | .cb => op = 0xCB

/-- Every entry of the base table stands at its own opcode (R78). -/
theorem baseEntry_encodes (op : Byte) : (baseEntry op).mode.Encodes op := by
  induction op using byte_cases with | h k hk
  interval_cases k <;> first
    | exact @And.intro (_ = _) (_ = _) rfl rfl
    | exact fun _ => @And.intro (_ = _) (_ = _) rfl rfl
    | exact (rfl : _ = _)

/-- Every entry of the CB table stands at its own `opcode2` (R79). -/
theorem cbInstr_encodes (op2 : Byte) : encode (cbInstr op2) = [0xCB, op2] ∧ (cbInstr op2).wellFormed = true := by
  induction op2 using byte_cases with | h k hk
  interval_cases k <;> exact @And.intro (_ = _) (_ = _) rfl rfl

/-- Every value of the CB table is an instruction with an entry, and none is the CB byte (R79, R80). -/
theorem cbInstr_hasEntry (op2 : Byte) : (cbInstr op2).form.hasEntry = true := by
  induction op2 using byte_cases with | h k hk
  interval_cases k <;> rfl

end Sys2Proof

namespace Sys2Proof.Machine

/-- What the CB byte runs, decoded by the fields of `opcode2`, is the instruction that the CB table holds (R77, R79). -/
theorem runCB_eq (op2 : Byte) (s : State) : runCB op2 s = (cbInstr op2).form.run s := by
  induction op2 using byte_cases with | h k hk
  interval_cases k <;> rfl

/-! ## Fetching -/

/-- A read looks at memory alone. -/
@[simp] theorem State.read_withPc (s : State) (p a : Word) : ({ s with pc := p } : State).read a = s.read a := rfl

/-- Fetching reads the bytes at PC as the decoder does, and moves PC past them; nothing else changes (R15, R76). -/
theorem fetchInstr_decodes (s : State) : ∃ rest, decode s.bytesAtPC = .ok ((fetchInstr s).1, rest) ∧
    (fetchInstr s).2 = { s with pc := s.pc + BitVec.ofNat 16 (3 - rest.length) } := by
  unfold fetchInstr decode State.bytesAtPC
  simp only [State.fetch8]
  generalize (baseEntry (s.read s.pc)).mode = m
  cases m <;> simp [fetchOperands, decodeOperands, State.fetch8, State.read_withPc, BitVec.add_assoc]

/-- The fetch moves PC alone. -/
theorem fetchInstr_state (s : State) : ∃ pc, (fetchInstr s).2 = { s with pc := pc } := by
  obtain ⟨_, _, h⟩ := fetchInstr_decodes s
  exact ⟨_, h⟩

/-- What the fetch answers for an opcode byte of each kind (R76). -/
theorem fetchInstr_one (s : State) {i : Instr} (h : (baseEntry (s.read s.pc)).mode = .none i) :
    fetchInstr s = (i, { s with pc := s.pc + 1 }) := by
  simp [fetchInstr, State.fetch8, h, fetchOperands]

theorem fetchInstr_cb (s : State) (h : s.read s.pc = 0xCB) :
    fetchInstr s = (cbInstr (s.read (s.pc + 1)), { s with pc := s.pc + 2 }) := by
  have hpc : s.pc + 1 + 1 = s.pc + 2 := by bv_omega
  have hm : (baseEntry (s.read s.pc)).mode = .cb := by rw [h]; rfl
  simp only [fetchInstr, State.fetch8, hm, fetchOperands, hpc]
  rfl

/-- The fetched instruction has an encoding of its own: it is well formed, and the first byte is the one at PC. -/
theorem fetchInstr_encode (s : State) :
    (fetchInstr s).1.wellFormed = true ∧ ∃ rest, encode (fetchInstr s).1 = s.read s.pc :: rest := by
  have h := baseEntry_encodes (s.read s.pc)
  unfold fetchInstr
  simp only [State.fetch8]
  cases hm : (baseEntry (s.read s.pc)).mode <;> rw [hm] at h <;> simp only [fetchOperands, State.fetch8]
  case none i => exact ⟨h.2, _, h.1⟩
  case cb =>
    have hc := cbInstr_encodes (s.read (s.pc + 1))
    exact ⟨hc.2, _, by rw [show s.read s.pc = 0xCB from h]; exact hc.1⟩
  all_goals exact ⟨(h _).2, _, (h _).1⟩

/-! ## The step -/

theorem step_running {s : State} (h : s.execState = .running) :
    step s = exec (fetchInstr s).1 (fetchInstr s).2 := by
  simp only [step, h]

theorem step_not_running {s : State} (h : s.execState ≠ .running) : step s = .next s := by
  cases hs : s.execState <;> simp_all [step]

/-- What is known of a step that answered a next state: it ran one instruction, or it did nothing. -/
theorem next_of_step {s t : State} (h : step s = .next t) :
    (s.execState = .running ∧ (fetchInstr s).1.form.hasEntry = true ∧ t = (fetchInstr s).1.form.run (fetchInstr s).2) ∨
    (s.execState ≠ .running ∧ t = s) := by
  by_cases hr : s.execState = .running
  · rw [step_running hr] at h
    exact .inl ⟨hr, next_of_exec h⟩
  · rw [step_not_running hr] at h
    cases h
    exact .inr ⟨hr, rfl⟩

/-- What is known of a step that faulted. -/
theorem fault_of_step {s : State} {r : Fault} (h : step s = .fault r) :
    s.execState = .running ∧ ∃ op, (fetchInstr s).1.form = .noEntry op ∧
      r = .decodeError op ((fetchInstr s).2.pc - 1) := by
  by_cases hr : s.execState = .running
  · rw [step_running hr] at h
    exact ⟨hr, fault_of_exec h⟩
  · rw [step_not_running hr] at h
    cases h

/-- No step is refused. -/
theorem step_not_refused (s : State) (r : Refusal) : step s ≠ .refused r := by
  by_cases hr : s.execState = .running
  · rw [step_running hr]
    exact exec_not_refused _ _ r
  · rw [step_not_running hr]
    exact fun h => nomatch h

end Sys2Proof.Machine
end

