-- ==== Sys2Proof/Laws/Invariant.lean ====
section
/-! SUPPORT. Every operation that writes the state keeps the invariant. -/

namespace Sys2Proof.Machine

theorem State.inv_setFlags {s : State} (u : FlagUpdate) (h : s.Inv) : (s.setFlags u).Inv :=
  ⟨by rw [State.setFlags_mem]; exact h.1, by rw [State.lowNibble_setFlags]; exact h.2⟩

theorem State.inv_set8 {s : State} (r : Reg8) (v : Byte) (h : s.Inv) : (s.set8 r v).Inv :=
  ⟨by rw [State.set8_mem]; exact h.1, State.lowNibble_set8 r v h.2⟩

theorem State.inv_set16 {s : State} (r : Reg16) (v : Word) (h : s.Inv) : (s.set16 r v).Inv :=
  ⟨by rw [State.set16_mem]; exact h.1, State.lowNibble_set16 r v h.2⟩

theorem State.inv_write {s : State} (a : Word) (v : Byte) (h : s.Inv) : (s.write a v).Inv :=
  ⟨State.wf_write a v h.1, by rw [State.write_f]; exact h.2⟩

theorem State.inv_push {s : State} (v : Word) (h : s.Inv) : (s.push16 v).Inv :=
  ⟨State.wf_push16 v h.1, by rw [State.push16_f]; exact h.2⟩

theorem State.inv_pop {s : State} (h : s.Inv) : s.pop16.2.Inv := ⟨h.1, h.2⟩

theorem State.inv_jump {s : State} (v : Word) (h : s.Inv) : (jump v s).Inv := ⟨h.1, h.2⟩

/-- The CB byte does not select itself (R77). -/
theorem cbInstr_not_cb (op2 o : Byte) : (cbInstr op2).form ≠ .cbPrefix o := by
  induction op2 using byte_cases with | h k hk
  interval_cases k <;> exact fun h => nomatch h

end Sys2Proof.Machine
end

