-- ==== Sys2Proof/Laws/Effects.lean ====
section
/-! SUPPORT. What running an instruction can do: to the bus (a list of at most two byte writes), and to the registers, SP,
PC, IME and ExecutorState. -/

namespace Sys2Proof.Machine

/-! ## The bus -/

/-- Byte writes issued one after another. -/
def State.writes (s : State) : List (Word × Byte) → State
  | [] => s
  | (a, v) :: rest => (s.write a v).writes rest

/-- A write looks at the memory and at no other part of the state. -/
theorem State.mem_write_congr {s t : State} (h : t.mem = s.mem) (a : Word) (v : Byte) : (t.write a v).mem = (s.write a v).mem := by
  unfold State.write; split <;> simp [h]

/-- And adds to the log alike. -/
theorem State.log_write_congr {s t : State} (h : t.log = s.log) (a : Word) (v : Byte) : (t.write a v).log = (s.write a v).log := by
  rw [State.log_write, State.log_write, h]

/-- push16 is two writes on the bus (R47). -/
theorem State.push16_bus (s : State) (w : Word) :
    (s.push16 w).mem = (s.writes [(s.sp - 1, hi w), (s.sp - 2, lo w)]).mem ∧
    (s.push16 w).log = (s.writes [(s.sp - 1, hi w), (s.sp - 2, lo w)]).log := by
  rw [State.push16_eq]
  refine ⟨?_, ?_⟩
  · simp only [State.writes]
    apply State.mem_write_congr
    apply State.mem_write_congr
    rfl
  simp [State.writes, State.log_write]

/-- What an instruction does to memory and the log: the writes of its bus trace, in order. -/
theorem run_bus_noCB (f : Form) (s : State) (hf : ∀ o, f ≠ .cbPrefix o) :
    (f.run s).mem = (s.writes (s.dataWrites f)).mem ∧ (f.run s).log = (s.writes (s.dataWrites f)).log := by
  cases f with
  | cbPrefix o => exact absurd rfl (hf o)
  | ld_atHL_r r | ld_atHL_d8 n | ld_atA16_A aa | ldh_atA8_A a | ldh_atC_A | ld_atA16_SP aa | res_b_atHL b | set_b_atHL b =>
    exact ⟨rfl, rfl⟩
  | ld_at_A x | ld_A_at x => cases x <;> exact ⟨rfl, rfl⟩
  | inc_atHL | dec_atHL | rot_atHL op =>
    constructor <;> simp [Form.run, incHL, decHL, rotHL, State.dataWrites, State.writes, State.writeHL]
  | push rr => exact State.push16_bus s _
  | call aa | rst n => exact State.push16_bus s _
  | call_cc cc aa =>
    by_cases hc : s.cond cc = true
    · simp only [Form.run, callIf, State.dataWrites, hc, if_true]; exact State.push16_bus s _
    · simp [Form.run, callIf, hc, State.writes, State.dataWrites]
  | jp_cc cc aa | jr_cc cc aa | ret_cc cc =>
    simp only [Form.run, jumpIf, jumpRelIf, jumpRel, retIf, ret, jump]; split <;> exact ⟨rfl, rfl⟩
  | alu_r op r | alu_atHL op | alu_d8 op r =>
    cases op <;> simp [Form.run, aluReg, aluHL, aluImm, aluA, State.writes, State.dataWrites]
  | _ =>
    simp [Form.run, loadRegReg, loadRegImm, loadRegHL, loadADirect, loadAHigh,
      loadAHighC, loadPairImm, loadSPHL, loadHLSPe8, incReg, decReg, daa, cpl, scf, popPair,
      ccf, addHLPair, incPair, decPair, addSP, rotA, rotReg, bitReg, bitHL, resReg, setReg,
      State.setR, ret, reti, jumpHL, jumpRel, jump, State.writes, State.dataWrites, nop, halt, di, ei]

/-- No instruction writes more than two bytes. -/
theorem length_dataWrites (f : Form) (s : State) : (s.dataWrites f).length ≤ 2 := by
  cases f <;> simp only [State.dataWrites, State.pushWrites, List.length_cons, List.length_nil] <;> try omega
  split <;> simp

/-- The instructions that issue a bus write are those of `writesBus`. -/
theorem writesBus_or_nil (f : Form) (s : State) : writesBus f = true ∨ s.dataWrites f = [] := by
  cases f <;> first | exact .inl rfl | exact .inr rfl

/-- The CB byte runs what `opcode2` selects (R77). -/
theorem run_selected (f : Form) (s : State) : f.run s = (selected f).run s := by
  cases f <;> first | rfl | exact runCB_eq _ s

/-- What `opcode2` selects is not the CB byte. -/
theorem selected_not_cb (f : Form) (o : Byte) : selected f ≠ .cbPrefix o := by
  cases f <;> first | exact cbInstr_not_cb _ o | exact fun h => nomatch h

/-- What running an instruction does to memory and the log: at most two byte writes. -/
theorem run_bus (f : Form) (s : State) :
    ∃ ops : List (Word × Byte), ops.length ≤ 2 ∧ (writesBus (selected f) = false → ops = []) ∧
      (f.run s).mem = (s.writes ops).mem ∧ (f.run s).log = (s.writes ops).log := by
  rw [run_selected]
  exact ⟨_, length_dataWrites _ s, fun h => (writesBus_or_nil _ s).resolve_left (by simp [h]), run_bus_noCB _ s (selected_not_cb f)⟩

/-- Writes change no address outside VRAM and WRAM (R43). -/
theorem read_writes_rom (s : State) (ops : List (Word × Byte)) (a : Word) (h : region a ≠ .vram) (h' : region a ≠ .wram) :
    (s.writes ops).read a = s.read a := by
  induction ops generalizing s with
  | nil => rfl
  | cons x rest ih =>
    obtain ⟨b, v⟩ := x
    rw [State.writes, ih]
    by_cases hb : a = b
    · subst hb
      rw [State.read_write_same, if_neg (by simp [h, h'])]
    · exact State.read_write_other s v hb

/-- The warnings of writes, in their order (R262). -/
theorem log_writes (s : State) (ops : List (Word × Byte)) :
    (s.writes ops).log = s.log ++ ops.flatMap fun x => warningsOf x.1 := by
  induction ops generalizing s with
  | nil => simp [State.writes]
  | cons x rest ih => simp [State.writes, ih, State.log_write]

/-! ## Everything else -/

/-- What a meaning leaves alone, but for memory: the registers outside a list, and SP, PC, IME, ExecutorState unless
they are given. -/
structure Leaves (regs : List Reg8) (sp pc ime : Bool) (s t : State) : Prop where
  regs : SameRegs regs s t
  sp : sp = false → t.sp = s.sp
  pc : pc = false → t.pc = s.pc
  ime : ime = false → t.ime = s.ime
  execState : t.execState = s.execState

/-! One lemma for each shared operation: what it leaves alone. -/

theorem leaves_refl (xs : List Reg8) (a b c : Bool) (s : State) : Leaves xs a b c s s :=
  ⟨fun _ _ => rfl, fun _ => rfl, fun _ => rfl, fun _ => rfl, rfl⟩

theorem leaves_write (a : Word) (v : Byte) (s : State) : Leaves [] false false false s (s.write a v) :=
  ⟨fun r _ => by cases r <;> simp [State.get8], fun _ => by simp, fun _ => by simp, fun _ => by simp, by simp⟩

theorem leaves_set8 (r : Reg8) (v : Byte) (s : State) : Leaves [r] false false false s (s.set8 r v) :=
  ⟨fun q hq => by cases r <;> cases q <;> first | rfl | simp at hq, fun _ => by simp, fun _ => by simp, fun _ => by simp, by simp⟩

theorem leaves_setFlags (u : FlagUpdate) (s : State) : Leaves [.F] false false false s (s.setFlags u) :=
  ⟨fun q hq => by cases q <;> simp at hq <;> simp [State.get8], fun _ => by simp, fun _ => by simp, fun _ => by simp, by simp⟩

theorem leaves_pop (s : State) : Leaves [] true false false s s.pop16.2 :=
  ⟨fun _ _ => rfl, nofun, fun _ => rfl, fun _ => rfl, rfl⟩

theorem leaves_push (w : Word) (s : State) : Leaves [] true false false s (s.push16 w) :=
  ⟨fun r _ => by cases r <;> simp [State.get8], nofun, fun _ => by simp, fun _ => by simp, by simp⟩

theorem leaves_jump (w : Word) (s : State) : Leaves [] false true false s (jump w s) :=
  ⟨fun _ _ => rfl, fun _ => rfl, nofun, fun _ => rfl, rfl⟩

/-- The 8-bit halves of a 16-bit register. -/
def Reg16.halves : Reg16 → List Reg8
  | .AF => [.A, .F] | .BC => [.B, .C] | .DE => [.D, .E] | .HL => [.H, .L] | .SP => [] | .PC => []

theorem leaves_set16 (r : Reg16) (v : Word) (s : State) : Leaves r.halves (decide (r = .SP)) (decide (r = .PC)) false s (s.set16 r v) := by
  refine ⟨fun q hq => ?_, fun h => ?_, fun h => ?_, fun h => ?_, ?_⟩
  · cases r <;> cases q <;> first | rfl | simp [Reg16.halves] at hq
  all_goals cases r <;> first | rfl | simp at h

/-- One operation after another. -/
theorem Leaves.seq {xs ys : List Reg8} {a b c a' b' c' : Bool} {s t u : State} (h : Leaves xs a b c s t) (k : Leaves ys a' b' c' t u) :
    Leaves (xs ++ ys) (a || a') (b || b') (c || c') s u where
  regs r hr := (k.regs r (by simp_all)).trans (h.regs r (by simp_all))
  sp h' := (k.sp (by simp_all)).trans (h.sp (by simp_all))
  pc h' := (k.pc (by simp_all)).trans (h.pc (by simp_all))
  ime h' := (k.ime (by simp_all)).trans (h.ime (by simp_all))
  execState := k.execState.trans h.execState

/-- What an instruction leaves alone. -/
def Keeps (f : Form) (s : State) : Prop :=
  Leaves (writesRegs f) (writesSP f) (writesPC f) (writesIME f) s (f.run s)

/-- Every instruction but HALT leaves alone what the lists of Safety.lean do not give it (R24). -/
theorem run_leaves (f : Form) (s : State) (hf : ∀ o, f ≠ .cbPrefix o) (hh : f ≠ .halt) : Keeps f s := by
  cases f with
  | cbPrefix o => exact absurd rfl (hf o)
  | halt => exact absurd rfl hh
  | nop | noEntry => exact leaves_refl ..
  | di => exact ⟨fun _ _ => rfl, fun _ => rfl, fun _ => rfl, nofun, rfl⟩
  | ei => exact ⟨fun _ _ => rfl, fun _ => rfl, fun _ => rfl, nofun, rfl⟩
  | reti => exact ⟨fun _ _ => rfl, nofun, nofun, nofun, rfl⟩
  | ret => exact (leaves_pop s).seq (leaves_jump _ _)
  | jp aa | jp_HL | jr aa => exact leaves_jump _ _
  | call aa | rst n => exact (leaves_push _ s).seq (leaves_jump _ _)
  | jp_cc cc aa =>
    simp only [Keeps, Form.run, jumpIf]; split
    · exact leaves_jump _ _
    · exact leaves_refl ..
  | jr_cc cc aa =>
    simp only [Keeps, Form.run, jumpRelIf]; split
    · exact leaves_jump _ _
    · exact leaves_refl ..
  | call_cc cc aa =>
    simp only [Keeps, Form.run, callIf]; split
    · exact (leaves_push _ s).seq (leaves_jump _ _)
    · exact leaves_refl ..
  | ret_cc cc =>
    simp only [Keeps, Form.run, retIf]; split
    · exact (leaves_pop s).seq (leaves_jump _ _)
    · exact leaves_refl ..
  | ld_r_r d x | ld_r_d8 d x | ld_r_atHL d | res_b_r d' d | set_b_r d' d => exact leaves_set8 ..
  | ld_atHL_r | ld_atHL_d8 | ld_atA16_A | ldh_atA8_A | ldh_atC_A | res_b_atHL | set_b_atHL => exact leaves_write ..
  | ld_A_atA16 | ldh_A_atA8 | ldh_A_atC => exact leaves_set8 ..
  | ld_A_at x => cases x <;> first
      | exact leaves_set8 ..
      | exact (leaves_set8 .A _ s).seq (leaves_set16 .HL _ _)
  | ld_at_A x => cases x <;> first
      | exact leaves_write ..
      | exact (leaves_write _ _ s).seq (leaves_set16 .HL _ _)
  | ld_rr_d16 rr nn => cases rr <;> first
      | exact leaves_set16 .BC _ s
      | exact leaves_set16 .DE _ s
      | exact leaves_set16 .HL _ s
      | exact leaves_set16 .SP _ s
  | inc_rr rr => cases rr <;> first
      | exact leaves_set16 .BC _ s
      | exact leaves_set16 .DE _ s
      | exact leaves_set16 .HL _ s
      | exact leaves_set16 .SP _ s
  | dec_rr rr => cases rr <;> first
      | exact leaves_set16 .BC _ s
      | exact leaves_set16 .DE _ s
      | exact leaves_set16 .HL _ s
      | exact leaves_set16 .SP _ s
  | ld_SP_HL => exact leaves_set16 .SP _ s
  | ld_atA16_SP aa => exact (leaves_write _ _ s).seq (leaves_write ..)
  | push rr => exact leaves_push ..
  | pop rr => cases rr <;> first
      | exact (leaves_pop s).seq (leaves_set16 .BC _ _)
      | exact (leaves_pop s).seq (leaves_set16 .DE _ _)
      | exact (leaves_pop s).seq (leaves_set16 .HL _ _)
      | exact (leaves_pop s).seq (leaves_set16 .AF _ _)
  | ld_HL_SPe8 e =>
    simp only [Keeps, Form.run, loadHLSPe8]
    exact (leaves_set16 .HL _ s).seq (leaves_setFlags ..)
  | add_HL_rr rr =>
    simp only [Keeps, Form.run, addHLPair]
    exact (leaves_set16 .HL _ s).seq (leaves_setFlags ..)
  | add_SP_e8 e =>
    simp only [Keeps, Form.run, addSP]
    exact (leaves_set16 .SP _ s).seq (leaves_setFlags ..)
  | alu_r op r | alu_atHL op | alu_d8 op r => cases op <;>
      simp only [Keeps, Form.run, aluReg, aluHL, aluImm, aluA] <;> first
      | exact (leaves_set8 ..).seq (leaves_setFlags ..)
      | exact leaves_setFlags ..
  | inc_r | dec_r | rot_r | daa | cpl | rlca | rla | rrca | rra =>
    simp only [Keeps, Form.run, incReg, decReg, rotReg, daa, cpl, rotA, State.setR]
    exact (leaves_set8 ..).seq (leaves_setFlags ..)
  | inc_atHL | dec_atHL | rot_atHL =>
    simp only [Keeps, Form.run, incHL, decHL, rotHL, State.writeHL]
    exact (leaves_write ..).seq (leaves_setFlags ..)
  | scf | ccf | bit_b_r | bit_b_atHL =>
    simp only [Keeps, Form.run, scf, ccf, bitReg, bitHL]
    exact leaves_setFlags ..

/-- An instruction that issues no bus write leaves memory and the log alone. -/
theorem run_sameMemory (f : Form) (s : State) (h : writesBus (selected f) = false) : SameMemory s (f.run s) := by
  obtain ⟨ops, -, ho, hm, hl⟩ := run_bus f s
  rw [ho h] at hm hl
  exact ⟨fun a => State.read_congr hm a, hl⟩

/-- An instruction that writes none of SP, PC, IME, ExecutorState leaves all four alone. -/
theorem Leaves.sameControl {xs : List Reg8} {s t : State} (h : Leaves xs false false false s t) : SameControl s t :=
  ⟨h.sp rfl, h.pc rfl, h.execState, h.ime rfl⟩

/-- A state with the same F has the same flags. -/
theorem sameFlags_of_eq {s t : State} (h : t.f = s.f) (xs : List Flag) : SameFlags xs s t :=
  ⟨fun x _ => State.getFlag_congr h x, by rw [h]⟩

/-- An update changes only the flags that it names (R81). -/
theorem sameFlags_setFlags {s t : State} {u : FlagUpdate} {xs : List Flag} (h : t.f = s.f)
    (hu : ∀ x, x ∉ xs → u.get x = none) : SameFlags xs s (t.setFlags u) := by
  refine ⟨fun x hx => ?_, ?_⟩
  · rw [State.getFlag_setFlags, hu x hx, Option.getD_none, State.getFlag_congr h]
  · rw [State.lowNibble_setFlags, h]

end Sys2Proof.Machine
end

