-- ==== Sys2Proof/Laws/Alu.lean ====
section
/-! SUPPORT. What the computations of Flags.lean answer, in numbers and bits, and what the shared operations over them do:
the lemmas a proof about one instruction cites instead of unfolding its meaning. -/

namespace Sys2Proof.Machine

/-! ## 8-bit arithmetic -/

theorem add8_res (a b : Byte) (c : Bool) : (add8 a b c).res.toNat = (a.toNat + b.toNat + c.toNat) % 256 := by
  simp [add8]

theorem sub8_res (a b : Byte) (c : Bool) : (sub8 a b c).res.toNat = (a.toNat + 256 - b.toNat - c.toNat) % 256 := by
  have := a.isLt
  have := b.isLt
  have : c.toNat ≤ 1 := by cases c <;> decide
  simp only [sub8, BitVec.toNat_ofInt]
  omega

/-- Without carry-in, the difference is zero exactly for equal bytes: what CP tests (R162). -/
theorem sub8_res_eq_zero (a b : Byte) : (sub8 a b false).res = 0 ↔ a = b := by
  have hr := sub8_res a b false
  have := a.isLt
  have := b.isLt
  constructor <;> intro h <;> apply BitVec.eq_of_toNat_eq
  · rw [h] at hr
    simp at hr
    omega
  · rw [hr, h]
    simp

/-- DAA after an addition (R169). -/
theorem daa8_res_add (a : Byte) (h c : Bool) :
    (daa8 a false h c).res.toNat = (a.toNat + (if h = true ∨ a.toNat % 16 > 9 then 0x06 else 0)
      + (if c = true ∨ a.toNat > 0x99 then 0x60 else 0)) % 256 := by
  cases h <;> cases c <;> revert a <;> decide

/-- DAA after a subtraction (R169). -/
theorem daa8_res_sub (a : Byte) (h c : Bool) :
    (daa8 a true h c).res.toNat = (a.toNat + 256 - (if h = true then 0x06 else 0) - (if c = true then 0x60 else 0)) % 256 := by
  cases h <;> cases c <;> revert a <;> decide

/-- What an ALU operation on A leaves: A the result unless it is CP, and each flag as its computation says. -/
theorem aluA_a (op : AluOp) (v : Byte) (s : State) :
    (aluA op v s).a = if op = .cp then s.a else (alu8 op s.a v (s.getFlag .C)).res := by
  unfold aluA
  cases op <;> rfl

theorem aluA_flag (op : AluOp) (v : Byte) (s : State) (x : Flag) :
    (aluA op v s).getFlag x = ((alu8 op s.a v (s.getFlag .C)).flags.get x).getD (s.getFlag x) := by
  unfold aluA
  cases op <;> exact State.getFlag_setFlags ..

/-- And what it leaves alone. -/
theorem aluA_frame (op : AluOp) (v : Byte) (s : State) :
    SameRegs (if op = .cp then [.F] else [.A, .F]) s (aluA op v s) ∧ SameFlags [.Z, .N, .H, .C] s (aluA op v s) ∧
    SameMemory s (aluA op v s) ∧ SameControl s (aluA op v s) := by
  have h := run_leaves (.alu_d8 op v) s nofun nofun
  refine ⟨?_, ?_, run_sameMemory (.alu_d8 op v) s rfl, h.sameControl⟩
  · cases op <;> exact h.regs
  · unfold aluA
    cases op <;> exact sameFlags_setFlags rfl (by intro x hx; cases x <;> simp at hx)

/-! ## SP plus a signed byte, the high page -/

theorem toInt_add_sext16 (w : Word) (e : Byte) : (w + sext16 e).toInt = (w.toInt + e.toInt).bmod (2 ^ 16) := by
  rw [BitVec.toInt_add]
  unfold sext16
  rw [BitVec.toInt_signExtend_of_le (by decide)]

theorem highPageAddr_eq (n : Byte) : highPageAddr n = 0xFF00 + n.setWidth 16 := by
  revert n
  decide

/-- No store owns the high page (R41, R112 to R115). -/
theorem region_highPageAddr (n : Byte) : region (highPageAddr n) = .unmapped := by
  revert n
  decide

/-! ## Rotates, shifts, bits -/

/-- Each function of the table of 44_rotate_shift_bit.md, bit by bit, and its carry-out. -/
theorem rotate_spec (op : RotOp) (v : Byte) (c : Bool) :
    (∀ k < 8, (rotate op v c).1.getLsbD k = rotatedBit op v c k) ∧ (rotate op v c).2 = shiftedOutBit op v := by
  constructor
  · intro k hk
    interval_cases k <;> cases op <;> simp only [rotate, rotatedBit] <;> rw [BitVec.getLsbD_append] <;> simp
  · cases op <;> rfl

theorem resBit_spec (b : Fin 8) (v : Byte) : ∀ k < 8, (resBit b v).getLsbD k = if k = b.val then false else v.getLsbD k := by
  intro k hk
  have := b.isLt
  by_cases h : k = b.val
  · simp [resBit, h, this]
  · simp [resBit, hk, h]
    omega

theorem setBit_spec (b : Fin 8) (v : Byte) : ∀ k < 8, (setBit b v).getLsbD k = if k = b.val then true else v.getLsbD k := by
  intro k hk
  have := b.isLt
  by_cases h : k = b.val
  · simp [setBit, h, this]
  · simp [setBit, hk, h]
    omega

/-! ## Stores followed by flags, and the stack -/

/-- A flag update changes F alone. -/
theorem State.setFlags_eq (s : State) (u : FlagUpdate) : s.setFlags u = { s with f := (s.setFlags u).f } := by
  obtain ⟨z, n, h, c⟩ := u
  cases z <;> cases n <;> cases h <;> cases c <;> rfl

/-- A flag update after a store leaves what the store did (R166, R168, R195 to R209). -/
theorem StoresByte.setFlags {a : Word} {v : Byte} {s t : State} (u : FlagUpdate) (h : StoresByte a v s t) :
    StoresByte a v s (t.setFlags u) := by
  refine ⟨?_, fun b hb => ?_, ?_⟩
  · rw [State.read_congr (State.setFlags_mem ..)]
    exact h.1
  · rw [State.read_congr (State.setFlags_mem ..)]
    exact h.2.1 b hb
  · rw [State.setFlags_log]
    exact h.2.2

theorem popPair_AF_eq (s : State) :
    popPair .AF s = { s with a := s.read (s.sp + 1), f := s.read s.sp &&& 0xF0, sp := s.sp + 2 } := by
  have h1 : hi s.pop16.1 = s.read (s.sp + 1) := hi_word _ _
  have h2 : lo s.pop16.1 = s.read s.sp := lo_word _ _
  unfold popPair
  simp only [StackField.reg, State.set16, State.set8, h1, h2]
  rw [← State.pop16_snd_sp s]
  rfl

/-- What `PC <- pop16()` leaves (R228). -/
theorem ret_eq (s : State) : ret s = { s with pc := s.read (s.sp + 1) ++ s.read s.sp, sp := s.sp + 2 } := by
  unfold ret jump
  rw [← State.pop16_snd_sp s]
  rfl

/-- What `push16(PCnext); PC <- a16` does and leaves alone (R226, R231). -/
theorem call_spec (aa : Word) (s : State) :
    (call aa s).pc = aa ∧ (call aa s).sp = s.sp - 2 ∧
    StoresTwo (s.sp - 1) (s.pc.extractLsb' 8 8) (s.sp - 2) (s.pc.extractLsb' 0 8) s (call aa s) ∧
    SameRegs [] s (call aa s) ∧ SameFlags [] s (call aa s) ∧ SameMode s (call aa s) := by
  have h := run_leaves (.call aa) s nofun nofun
  exact ⟨rfl, State.push16_sp .., State.push16_storesTwo .., h.regs, sameFlags_of_eq (State.push16_f ..) _, h.execState, h.ime rfl⟩

end Sys2Proof.Machine
end

