-- ==== Sys2Proof/Laws/Bus.lean ====
section
/-! SUPPORT. The bus trace against the step: what its writes do, and that its reads are all a meaning sees of memory. -/

namespace Sys2Proof.Machine

/-- Accesses one after another. -/
theorem replay_append (s : State) (xs ys : List BusAccess) : s.replay (xs ++ ys) = (s.replay xs).replay ys := by
  induction xs generalizing s with
  | nil => rfl
  | cons x r ih => cases x <;> exact ih _

/-- Reads do nothing. -/
theorem replay_reads (s : State) (g : Word → Byte) (rs : List Word) : s.replay (rs.map fun a => .read a (g a)) = s := by
  induction rs with
  | nil => rfl
  | cons x r ih => exact ih

/-- Writes do what `State.writes` does. -/
theorem replay_writes (s : State) (ws : List (Word × Byte)) : s.replay (ws.map fun x => .write x.1 x.2) = s.writes ws := by
  induction ws generalizing s with
  | nil => rfl
  | cons x r ih => exact ih _

/-- What a Running step's accesses do: its writes. -/
theorem replay_busOf (s : State) : s.replay s.busOf = s.writes ((fetchInstr s).2.dataWrites (fetchInstr s).1.form) := by
  unfold State.busOf
  rw [replay_append, replay_reads, replay_writes]

/-! ## Another memory under the same registers -/

/-- The state with another memory. -/
abbrev State.withMem (m : Memory) (s : State) : State := { s with mem := m }

/-- A bus write looks at memory for the memory it leaves alone. -/
theorem write_withMem (m : Memory) (s : State) (a : Word) (v : Byte) :
    (State.withMem m s).write a v = State.withMem ((State.withMem m s).write a v).mem (s.write a v) := by
  unfold State.write; split <;> rfl

/-- And so does push16. -/
theorem push16_withMem (m : Memory) (s : State) (w : Word) :
    (State.withMem m s).push16 w = State.withMem ((State.withMem m s).push16 w).mem (s.push16 w) := by
  unfold State.push16
  simp only []
  rw [show ({ State.withMem m s with sp := (State.withMem m s).sp - 1 } : State) = State.withMem m { s with sp := s.sp - 1 } from rfl, write_withMem]
  generalize ((State.withMem m { s with sp := s.sp - 1 }).write (State.withMem m { s with sp := s.sp - 1 }).sp (hi w)).mem = m'
  generalize ({ s with sp := s.sp - 1 } : State).write ({ s with sp := s.sp - 1 } : State).sp (hi w) = s'
  exact write_withMem m' { s' with sp := s'.sp - 1 } _ _

/-- A write, then a change that does not look at memory. -/
theorem write_withMem_then (m : Memory) (s : State) (a : Word) (v : Byte) (g : State → State)
    (hg : ∀ (n : Memory) (x : State), g (State.withMem n x) = State.withMem n (g x)) :
    g ((State.withMem m s).write a v) = State.withMem (g ((State.withMem m s).write a v)).mem (g (s.write a v)) := by
  rw [write_withMem, hg]

/-- Two writes. -/
theorem write_write_withMem (m : Memory) (s : State) (a b : Word) (v w : Byte) :
    ((State.withMem m s).write a v).write b w = State.withMem (((State.withMem m s).write a v).write b w).mem ((s.write a v).write b w) := by
  have h := write_withMem m s a v
  generalize (State.withMem m s).write a v = x at h ⊢
  generalize s.write a v = y at h ⊢
  generalize x.mem = n at h; subst h
  exact write_withMem _ _ _ _

/-- push16, then a change that does not look at memory. -/
theorem push16_withMem_then (m : Memory) (s : State) (w : Word) (g : State → State)
    (hg : ∀ (n : Memory) (x : State), g (State.withMem n x) = State.withMem n (g x)) :
    g ((State.withMem m s).push16 w) = State.withMem (g ((State.withMem m s).push16 w)).mem (g (s.push16 w)) := by
  rw [push16_withMem, hg]

/-- A flag update does not look at memory. -/
theorem setFlags_withMem (u : FlagUpdate) (n : Memory) (x : State) : (State.withMem n x).setFlags u = State.withMem n (x.setFlags u) := by
  obtain ⟨z, nn, h, c⟩ := u
  cases z <;> cases nn <;> cases h <;> cases c <;> rfl

/-- The same, of two states that differ in memory alone. -/
theorem setFlags_of_withMem {x x' : State} (hx : x' = State.withMem x'.mem x) (u : FlagUpdate) : x'.setFlags u = State.withMem (x'.setFlags u).mem (x.setFlags u) := by
  generalize x'.mem = m at hx; subst hx
  rw [setFlags_withMem]

/-- An instruction looks at memory through its data reads alone: another memory that answers them alike gives the same
registers, the same log and the same accesses (R49). -/
theorem run_reads_only (f : Form) (s : State) (m : Memory) (hf : ∀ o, f ≠ .cbPrefix o)
    (h : ∀ a ∈ s.dataReads f, (State.withMem m s).read a = s.read a) :
    f.run (State.withMem m s) = State.withMem (f.run (State.withMem m s)).mem (f.run s) ∧
    (State.withMem m s).dataReads f = s.dataReads f ∧ (State.withMem m s).dataWrites f = s.dataWrites f := by
  cases f with
  | cbPrefix o => exact absurd rfl (hf o)
  | ld_r_atHL d =>
    have hr : (State.withMem m s).readHL = s.readHL := h (s.get16 .HL) (by simp [State.dataReads])
    refine ⟨?_, rfl, rfl⟩
    simp only [Form.run, loadRegHL, hr]; cases d <;> rfl
  | alu_atHL op =>
    have hr : (State.withMem m s).readHL = s.readHL := h (s.get16 .HL) (by simp [State.dataReads])
    refine ⟨?_, rfl, rfl⟩
    simp only [Form.run, aluHL, hr]
    cases op <;> simp only [aluA] <;> exact setFlags_of_withMem (by rfl) _
  | bit_b_atHL b =>
    have hr : (State.withMem m s).readHL = s.readHL := h (s.get16 .HL) (by simp [State.dataReads])
    refine ⟨?_, rfl, rfl⟩
    simp only [Form.run, bitHL, hr]
    exact setFlags_of_withMem (by rfl) _
  | inc_atHL =>
    have hr : (State.withMem m s).readHL = s.readHL := h (s.get16 .HL) (by simp [State.dataReads])
    refine ⟨?_, rfl, ?_⟩
    · simp only [Form.run, incHL, hr]
      exact write_withMem_then m s _ _ (fun x => x.setFlags (inc8 s.readHL).flags) (fun n x => setFlags_withMem _ n x)
    · simp only [State.dataWrites, hr]; rfl
  | dec_atHL =>
    have hr : (State.withMem m s).readHL = s.readHL := h (s.get16 .HL) (by simp [State.dataReads])
    refine ⟨?_, rfl, ?_⟩
    · simp only [Form.run, decHL, hr]
      exact write_withMem_then m s _ _ (fun x => x.setFlags (dec8 s.readHL).flags) (fun n x => setFlags_withMem _ n x)
    · simp only [State.dataWrites, hr]; rfl
  | rot_atHL op =>
    have hr : (State.withMem m s).readHL = s.readHL := h (s.get16 .HL) (by simp [State.dataReads])
    refine ⟨?_, rfl, ?_⟩
    · simp only [Form.run, rotHL, hr, show (State.withMem m s).getFlag .C = s.getFlag .C from rfl]
      exact write_withMem_then m s _ _ (fun x => x.setFlags (rot8 op s.readHL (s.getFlag .C)).flags) (fun n x => setFlags_withMem _ n x)
    · simp only [State.dataWrites, hr]; rfl
  | res_b_atHL b | set_b_atHL b =>
    have hr : (State.withMem m s).readHL = s.readHL := h (s.get16 .HL) (by simp [State.dataReads])
    refine ⟨?_, rfl, ?_⟩
    · simp only [Form.run, resHL, setHL, hr]
      exact write_withMem_then m s _ _ (fun x => x) (fun n x => rfl)
    · simp only [State.dataWrites, hr]; rfl
  | ld_A_at x =>
    have hr : (State.withMem m s).read (s.atAddr x) = s.read (s.atAddr x) := h _ (by simp [State.dataReads])
    have ha : (State.withMem m s).atAddr x = s.atAddr x := by cases x <;> rfl
    refine ⟨?_, ?_, rfl⟩
    · simp only [Form.run, loadAAt, ha, hr]; cases x <;> rfl
    · simp only [State.dataReads, ha]
  | ld_A_atA16 aa =>
    have hr : (State.withMem m s).read aa = s.read aa := h _ (by simp [State.dataReads])
    refine ⟨?_, rfl, rfl⟩
    simp only [Form.run, loadADirect, hr]; rfl
  | ldh_A_atA8 n =>
    have hr : (State.withMem m s).read (highPageAddr n) = s.read (highPageAddr n) := h _ (by simp [State.dataReads])
    refine ⟨?_, rfl, rfl⟩
    simp only [Form.run, loadAHigh, hr]; rfl
  | ldh_A_atC =>
    have hr : (State.withMem m s).read (highPageAddr (s.get8 .C)) = s.read (highPageAddr (s.get8 .C)) := h _ (by simp [State.dataReads])
    refine ⟨?_, rfl, rfl⟩
    simp only [Form.run, loadAHighC, show (State.withMem m s).get8 .C = s.get8 .C from rfl, hr]; rfl
  | pop rr =>
    have h1 : (State.withMem m s).read s.sp = s.read s.sp := h _ (by simp [State.dataReads])
    have h2 : (State.withMem m s).read (s.sp + 1) = s.read (s.sp + 1) := h _ (by simp [State.dataReads])
    have hp : (State.withMem m s).pop16 = (s.pop16.1, State.withMem m s.pop16.2) := by
      refine Prod.ext ?_ rfl
      exact congrArg₂ word h2 h1
    refine ⟨?_, rfl, rfl⟩
    simp only [Form.run, popPair, hp]; cases rr <;> rfl
  | ret =>
    have h1 : (State.withMem m s).read s.sp = s.read s.sp := h _ (by simp [State.dataReads])
    have h2 : (State.withMem m s).read (s.sp + 1) = s.read (s.sp + 1) := h _ (by simp [State.dataReads])
    have hp : (State.withMem m s).pop16 = (s.pop16.1, State.withMem m s.pop16.2) := by
      refine Prod.ext ?_ rfl
      exact congrArg₂ word h2 h1
    refine ⟨?_, rfl, rfl⟩
    simp only [Form.run, ret, hp]; rfl
  | reti =>
    have h1 : (State.withMem m s).read s.sp = s.read s.sp := h _ (by simp [State.dataReads])
    have h2 : (State.withMem m s).read (s.sp + 1) = s.read (s.sp + 1) := h _ (by simp [State.dataReads])
    have hp : (State.withMem m s).pop16 = (s.pop16.1, State.withMem m s.pop16.2) := by
      refine Prod.ext ?_ rfl
      exact congrArg₂ word h2 h1
    refine ⟨?_, rfl, rfl⟩
    simp only [Form.run, reti, ret, hp]; rfl
  | ret_cc cc =>
    have hc : (State.withMem m s).cond cc = s.cond cc := by cases cc <;> rfl
    refine ⟨?_, by simp only [State.dataReads, hc], rfl⟩
    simp only [Form.run, retIf, hc]
    split
    · rename_i hcc
      have h1 : (State.withMem m s).read s.sp = s.read s.sp := h _ (by simp [State.dataReads, hcc])
      have h2 : (State.withMem m s).read (s.sp + 1) = s.read (s.sp + 1) := h _ (by simp [State.dataReads, hcc])
      have hp : (State.withMem m s).pop16 = (s.pop16.1, State.withMem m s.pop16.2) := by
        refine Prod.ext ?_ rfl
        exact congrArg₂ word h2 h1
      simp only [ret, hp]; rfl
    · rfl
  | jp_cc cc aa | jr_cc cc aa =>
    have hc : (State.withMem m s).cond cc = s.cond cc := by cases cc <;> rfl
    refine ⟨?_, rfl, rfl⟩
    simp only [Form.run, jumpIf, jumpRelIf, hc]
    split <;> rfl
  | call_cc cc aa =>
    have hc : (State.withMem m s).cond cc = s.cond cc := by cases cc <;> rfl
    refine ⟨?_, rfl, by simp only [State.dataWrites, hc]; rfl⟩
    simp only [Form.run, callIf, hc]
    split
    · exact push16_withMem_then m s _ (jump aa) (fun _ _ => rfl)
    · rfl
  | call aa => exact ⟨push16_withMem_then m s _ (jump aa) (fun _ _ => rfl), rfl, rfl⟩
  | rst n => exact ⟨push16_withMem_then m s _ (jump _) (fun _ _ => rfl), rfl, rfl⟩
  | push rr => exact ⟨by cases rr <;> exact push16_withMem m s _, rfl, by cases rr <;> rfl⟩
  | ld_atHL_r | ld_atHL_d8 | ld_atA16_A | ldh_atA8_A | ldh_atC_A => exact ⟨write_withMem m s _ _, rfl, rfl⟩
  | ld_atA16_SP aa =>
    refine ⟨?_, rfl, rfl⟩
    simp only [Form.run, storeSPDirect, State.write16]
    exact write_write_withMem m s _ _ _ _
  | ld_at_A x => cases x
                 · exact ⟨write_withMem m s _ _, rfl, rfl⟩
                 · exact ⟨write_withMem m s _ _, rfl, rfl⟩
                 · exact ⟨write_withMem_then m s _ _ (fun x => x.set16 .HL (x.get16 .HL + 1)) (fun _ _ => rfl), rfl, rfl⟩
                 · exact ⟨write_withMem_then m s _ _ (fun x => x.set16 .HL (x.get16 .HL - 1)) (fun _ _ => rfl), rfl, rfl⟩
  | ld_r_r x | ld_r_d8 x | res_b_r _ x | set_b_r _ x | ld_rr_d16 x | inc_rr x | dec_rr x => cases x <;> exact ⟨rfl, rfl, rfl⟩
  | inc_r x | dec_r x | rot_r _ x =>
    refine ⟨?_, rfl, rfl⟩
    simp only [Form.run, incReg, decReg, rotReg]; cases x <;> exact setFlags_of_withMem (by rfl) _
  | alu_r op r =>
    refine ⟨?_, rfl, rfl⟩
    simp only [Form.run, aluReg, show (State.withMem m s).getR r = s.getR r by cases r <;> rfl]
    cases op <;> simp only [aluA] <;> exact setFlags_of_withMem (by rfl) _
  | alu_d8 op =>
    refine ⟨?_, rfl, rfl⟩
    simp only [Form.run, aluImm]
    cases op <;> simp only [aluA] <;> exact setFlags_of_withMem (by rfl) _
  | _ => exact ⟨rfl, rfl, rfl⟩

end Sys2Proof.Machine
end

