-- ==== Sys2Proof/Tests/Slice0.lean ====
section
/-! SUPPORT. The model's own tests. Expected results come from the spec: the decode rows from the mnemonics of
spec/opcode_table.json and the patterns of R78 and R79, the one-step results from spec/95_test_vectors.md, each with its
section. Then, for each statement of Obligations.lean with hypotheses, a witness that meets them. -/

namespace Sys2Proof.Tests

open Sys2Proof.Machine

/-! ## WellFormed: the one ill-formed kind of term is refused, and its neighbours are not (R77) -/

theorem test_wf_cbPrefix_refused : (Instr.cbPrefix 0x00).wellFormed = false := by decide
theorem test_wf_cbPrefix_cb_refused : (Instr.cbPrefix 0xCB).wellFormed = false := by decide
theorem test_wf_rlc_B : Instr.rlc_B.wellFormed = true := by decide
theorem test_wf_operand_extremes : (Instr.ld_HL_d16 0xFFFF).wellFormed = true := by decide
theorem test_wf_no_entry : Instr.no_entry_DD.wellFormed = true := by decide

/-! ## Decode: every word of the table

One theorem for each sixteen rows of spec/opcode_table.json: the instruction that each row's mnemonic names, operand
bytes zero. The row of the CB byte decodes with `opcode2` zero (log 6). -/

theorem test_decode_base_0x : ([0x00, 0x01, 0x02, 0x03, 0x04, 0x05, 0x06, 0x07, 0x08, 0x09, 0x0A, 0x0B, 0x0C, 0x0D, 0x0E, 0x0F].map (decodeTableWord 8)) =
    ([.nop, (.ld_BC_d16 0), .ld_atBC_A, .inc_BC, .inc_B, .dec_B, (.ld_B_d8 0), .rlca, (.ld_atA16_SP 0), .add_HL_BC, .ld_A_atBC, .dec_BC, .inc_C, .dec_C, (.ld_C_d8 0), .rrca] : List Instr).map some := by decide
theorem test_decode_base_1x : ([0x10, 0x11, 0x12, 0x13, 0x14, 0x15, 0x16, 0x17, 0x18, 0x19, 0x1A, 0x1B, 0x1C, 0x1D, 0x1E, 0x1F].map (decodeTableWord 8)) =
    ([.no_entry_10, (.ld_DE_d16 0), .ld_atDE_A, .inc_DE, .inc_D, .dec_D, (.ld_D_d8 0), .rla, (.jr_e8 0), .add_HL_DE, .ld_A_atDE, .dec_DE, .inc_E, .dec_E, (.ld_E_d8 0), .rra] : List Instr).map some := by decide
theorem test_decode_base_2x : ([0x20, 0x21, 0x22, 0x23, 0x24, 0x25, 0x26, 0x27, 0x28, 0x29, 0x2A, 0x2B, 0x2C, 0x2D, 0x2E, 0x2F].map (decodeTableWord 8)) =
    ([(.jr_NZ_e8 0), (.ld_HL_d16 0), .ld_atHLinc_A, .inc_HL, .inc_H, .dec_H, (.ld_H_d8 0), .daa, (.jr_Z_e8 0), .add_HL_HL, .ld_A_atHLinc, .dec_HL, .inc_L, .dec_L, (.ld_L_d8 0), .cpl] : List Instr).map some := by decide
theorem test_decode_base_3x : ([0x30, 0x31, 0x32, 0x33, 0x34, 0x35, 0x36, 0x37, 0x38, 0x39, 0x3A, 0x3B, 0x3C, 0x3D, 0x3E, 0x3F].map (decodeTableWord 8)) =
    ([(.jr_NC_e8 0), (.ld_SP_d16 0), .ld_atHLdec_A, .inc_SP, .inc_atHL, .dec_atHL, (.ld_atHL_d8 0), .scf, (.jr_C_e8 0), .add_HL_SP, .ld_A_atHLdec, .dec_SP, .inc_A, .dec_A, (.ld_A_d8 0), .ccf] : List Instr).map some := by decide
theorem test_decode_base_4x : ([0x40, 0x41, 0x42, 0x43, 0x44, 0x45, 0x46, 0x47, 0x48, 0x49, 0x4A, 0x4B, 0x4C, 0x4D, 0x4E, 0x4F].map (decodeTableWord 8)) =
    ([.ld_B_B, .ld_B_C, .ld_B_D, .ld_B_E, .ld_B_H, .ld_B_L, .ld_B_atHL, .ld_B_A, .ld_C_B, .ld_C_C, .ld_C_D, .ld_C_E, .ld_C_H, .ld_C_L, .ld_C_atHL, .ld_C_A] : List Instr).map some := by decide
theorem test_decode_base_5x : ([0x50, 0x51, 0x52, 0x53, 0x54, 0x55, 0x56, 0x57, 0x58, 0x59, 0x5A, 0x5B, 0x5C, 0x5D, 0x5E, 0x5F].map (decodeTableWord 8)) =
    ([.ld_D_B, .ld_D_C, .ld_D_D, .ld_D_E, .ld_D_H, .ld_D_L, .ld_D_atHL, .ld_D_A, .ld_E_B, .ld_E_C, .ld_E_D, .ld_E_E, .ld_E_H, .ld_E_L, .ld_E_atHL, .ld_E_A] : List Instr).map some := by decide
theorem test_decode_base_6x : ([0x60, 0x61, 0x62, 0x63, 0x64, 0x65, 0x66, 0x67, 0x68, 0x69, 0x6A, 0x6B, 0x6C, 0x6D, 0x6E, 0x6F].map (decodeTableWord 8)) =
    ([.ld_H_B, .ld_H_C, .ld_H_D, .ld_H_E, .ld_H_H, .ld_H_L, .ld_H_atHL, .ld_H_A, .ld_L_B, .ld_L_C, .ld_L_D, .ld_L_E, .ld_L_H, .ld_L_L, .ld_L_atHL, .ld_L_A] : List Instr).map some := by decide
theorem test_decode_base_7x : ([0x70, 0x71, 0x72, 0x73, 0x74, 0x75, 0x76, 0x77, 0x78, 0x79, 0x7A, 0x7B, 0x7C, 0x7D, 0x7E, 0x7F].map (decodeTableWord 8)) =
    ([.ld_atHL_B, .ld_atHL_C, .ld_atHL_D, .ld_atHL_E, .ld_atHL_H, .ld_atHL_L, .halt, .ld_atHL_A, .ld_A_B, .ld_A_C, .ld_A_D, .ld_A_E, .ld_A_H, .ld_A_L, .ld_A_atHL, .ld_A_A] : List Instr).map some := by decide
theorem test_decode_base_8x : ([0x80, 0x81, 0x82, 0x83, 0x84, 0x85, 0x86, 0x87, 0x88, 0x89, 0x8A, 0x8B, 0x8C, 0x8D, 0x8E, 0x8F].map (decodeTableWord 8)) =
    ([.add_A_B, .add_A_C, .add_A_D, .add_A_E, .add_A_H, .add_A_L, .add_A_atHL, .add_A_A, .adc_A_B, .adc_A_C, .adc_A_D, .adc_A_E, .adc_A_H, .adc_A_L, .adc_A_atHL, .adc_A_A] : List Instr).map some := by decide
theorem test_decode_base_9x : ([0x90, 0x91, 0x92, 0x93, 0x94, 0x95, 0x96, 0x97, 0x98, 0x99, 0x9A, 0x9B, 0x9C, 0x9D, 0x9E, 0x9F].map (decodeTableWord 8)) =
    ([.sub_B, .sub_C, .sub_D, .sub_E, .sub_H, .sub_L, .sub_atHL, .sub_A, .sbc_A_B, .sbc_A_C, .sbc_A_D, .sbc_A_E, .sbc_A_H, .sbc_A_L, .sbc_A_atHL, .sbc_A_A] : List Instr).map some := by decide
theorem test_decode_base_Ax : ([0xA0, 0xA1, 0xA2, 0xA3, 0xA4, 0xA5, 0xA6, 0xA7, 0xA8, 0xA9, 0xAA, 0xAB, 0xAC, 0xAD, 0xAE, 0xAF].map (decodeTableWord 8)) =
    ([.and_B, .and_C, .and_D, .and_E, .and_H, .and_L, .and_atHL, .and_A, .xor_B, .xor_C, .xor_D, .xor_E, .xor_H, .xor_L, .xor_atHL, .xor_A] : List Instr).map some := by decide
theorem test_decode_base_Bx : ([0xB0, 0xB1, 0xB2, 0xB3, 0xB4, 0xB5, 0xB6, 0xB7, 0xB8, 0xB9, 0xBA, 0xBB, 0xBC, 0xBD, 0xBE, 0xBF].map (decodeTableWord 8)) =
    ([.or_B, .or_C, .or_D, .or_E, .or_H, .or_L, .or_atHL, .or_A, .cp_B, .cp_C, .cp_D, .cp_E, .cp_H, .cp_L, .cp_atHL, .cp_A] : List Instr).map some := by decide
theorem test_decode_base_Cx : ([0xC0, 0xC1, 0xC2, 0xC3, 0xC4, 0xC5, 0xC6, 0xC7, 0xC8, 0xC9, 0xCA, 0xCB, 0xCC, 0xCD, 0xCE, 0xCF].map (decodeTableWord 8)) =
    ([.ret_NZ, .pop_BC, (.jp_NZ_a16 0), (.jp_a16 0), (.call_NZ_a16 0), .push_BC, (.add_A_d8 0), .rst_00, .ret_Z, .ret, (.jp_Z_a16 0), .rlc_B, (.call_Z_a16 0), (.call_a16 0), (.adc_A_d8 0), .rst_08] : List Instr).map some := by decide
theorem test_decode_base_Dx : ([0xD0, 0xD1, 0xD2, 0xD3, 0xD4, 0xD5, 0xD6, 0xD7, 0xD8, 0xD9, 0xDA, 0xDB, 0xDC, 0xDD, 0xDE, 0xDF].map (decodeTableWord 8)) =
    ([.ret_NC, .pop_DE, (.jp_NC_a16 0), .no_entry_D3, (.call_NC_a16 0), .push_DE, (.sub_d8 0), .rst_10, .ret_C, .reti, (.jp_C_a16 0), .no_entry_DB, (.call_C_a16 0), .no_entry_DD, (.sbc_A_d8 0), .rst_18] : List Instr).map some := by decide
theorem test_decode_base_Ex : ([0xE0, 0xE1, 0xE2, 0xE3, 0xE4, 0xE5, 0xE6, 0xE7, 0xE8, 0xE9, 0xEA, 0xEB, 0xEC, 0xED, 0xEE, 0xEF].map (decodeTableWord 8)) =
    ([(.ldh_atA8_A 0), .pop_HL, .ldh_atC_A, .no_entry_E3, .no_entry_E4, .push_HL, (.and_d8 0), .rst_20, (.add_SP_e8 0), .jp_HL, (.ld_atA16_A 0), .no_entry_EB, .no_entry_EC, .no_entry_ED, (.xor_d8 0), .rst_28] : List Instr).map some := by decide
theorem test_decode_base_Fx : ([0xF0, 0xF1, 0xF2, 0xF3, 0xF4, 0xF5, 0xF6, 0xF7, 0xF8, 0xF9, 0xFA, 0xFB, 0xFC, 0xFD, 0xFE, 0xFF].map (decodeTableWord 8)) =
    ([(.ldh_A_atA8 0), .pop_AF, .ldh_A_atC, .di, .no_entry_F4, .push_AF, (.or_d8 0), .rst_30, (.ld_HL_SPe8 0), .ld_SP_HL, (.ld_A_atA16 0), .ei, .no_entry_FC, .no_entry_FD, (.cp_d8 0), .rst_38] : List Instr).map some := by decide
theorem test_decode_cb_0x : ([0xCB00, 0xCB01, 0xCB02, 0xCB03, 0xCB04, 0xCB05, 0xCB06, 0xCB07, 0xCB08, 0xCB09, 0xCB0A, 0xCB0B, 0xCB0C, 0xCB0D, 0xCB0E, 0xCB0F].map (decodeTableWord 16)) =
    ([.rlc_B, .rlc_C, .rlc_D, .rlc_E, .rlc_H, .rlc_L, .rlc_atHL, .rlc_A, .rrc_B, .rrc_C, .rrc_D, .rrc_E, .rrc_H, .rrc_L, .rrc_atHL, .rrc_A] : List Instr).map some := by decide
theorem test_decode_cb_1x : ([0xCB10, 0xCB11, 0xCB12, 0xCB13, 0xCB14, 0xCB15, 0xCB16, 0xCB17, 0xCB18, 0xCB19, 0xCB1A, 0xCB1B, 0xCB1C, 0xCB1D, 0xCB1E, 0xCB1F].map (decodeTableWord 16)) =
    ([.rl_B, .rl_C, .rl_D, .rl_E, .rl_H, .rl_L, .rl_atHL, .rl_A, .rr_B, .rr_C, .rr_D, .rr_E, .rr_H, .rr_L, .rr_atHL, .rr_A] : List Instr).map some := by decide
theorem test_decode_cb_2x : ([0xCB20, 0xCB21, 0xCB22, 0xCB23, 0xCB24, 0xCB25, 0xCB26, 0xCB27, 0xCB28, 0xCB29, 0xCB2A, 0xCB2B, 0xCB2C, 0xCB2D, 0xCB2E, 0xCB2F].map (decodeTableWord 16)) =
    ([.sla_B, .sla_C, .sla_D, .sla_E, .sla_H, .sla_L, .sla_atHL, .sla_A, .sra_B, .sra_C, .sra_D, .sra_E, .sra_H, .sra_L, .sra_atHL, .sra_A] : List Instr).map some := by decide
theorem test_decode_cb_3x : ([0xCB30, 0xCB31, 0xCB32, 0xCB33, 0xCB34, 0xCB35, 0xCB36, 0xCB37, 0xCB38, 0xCB39, 0xCB3A, 0xCB3B, 0xCB3C, 0xCB3D, 0xCB3E, 0xCB3F].map (decodeTableWord 16)) =
    ([.swap_B, .swap_C, .swap_D, .swap_E, .swap_H, .swap_L, .swap_atHL, .swap_A, .srl_B, .srl_C, .srl_D, .srl_E, .srl_H, .srl_L, .srl_atHL, .srl_A] : List Instr).map some := by decide
theorem test_decode_cb_4x : ([0xCB40, 0xCB41, 0xCB42, 0xCB43, 0xCB44, 0xCB45, 0xCB46, 0xCB47, 0xCB48, 0xCB49, 0xCB4A, 0xCB4B, 0xCB4C, 0xCB4D, 0xCB4E, 0xCB4F].map (decodeTableWord 16)) =
    ([.bit_0_B, .bit_0_C, .bit_0_D, .bit_0_E, .bit_0_H, .bit_0_L, .bit_0_atHL, .bit_0_A, .bit_1_B, .bit_1_C, .bit_1_D, .bit_1_E, .bit_1_H, .bit_1_L, .bit_1_atHL, .bit_1_A] : List Instr).map some := by decide
theorem test_decode_cb_5x : ([0xCB50, 0xCB51, 0xCB52, 0xCB53, 0xCB54, 0xCB55, 0xCB56, 0xCB57, 0xCB58, 0xCB59, 0xCB5A, 0xCB5B, 0xCB5C, 0xCB5D, 0xCB5E, 0xCB5F].map (decodeTableWord 16)) =
    ([.bit_2_B, .bit_2_C, .bit_2_D, .bit_2_E, .bit_2_H, .bit_2_L, .bit_2_atHL, .bit_2_A, .bit_3_B, .bit_3_C, .bit_3_D, .bit_3_E, .bit_3_H, .bit_3_L, .bit_3_atHL, .bit_3_A] : List Instr).map some := by decide
theorem test_decode_cb_6x : ([0xCB60, 0xCB61, 0xCB62, 0xCB63, 0xCB64, 0xCB65, 0xCB66, 0xCB67, 0xCB68, 0xCB69, 0xCB6A, 0xCB6B, 0xCB6C, 0xCB6D, 0xCB6E, 0xCB6F].map (decodeTableWord 16)) =
    ([.bit_4_B, .bit_4_C, .bit_4_D, .bit_4_E, .bit_4_H, .bit_4_L, .bit_4_atHL, .bit_4_A, .bit_5_B, .bit_5_C, .bit_5_D, .bit_5_E, .bit_5_H, .bit_5_L, .bit_5_atHL, .bit_5_A] : List Instr).map some := by decide
theorem test_decode_cb_7x : ([0xCB70, 0xCB71, 0xCB72, 0xCB73, 0xCB74, 0xCB75, 0xCB76, 0xCB77, 0xCB78, 0xCB79, 0xCB7A, 0xCB7B, 0xCB7C, 0xCB7D, 0xCB7E, 0xCB7F].map (decodeTableWord 16)) =
    ([.bit_6_B, .bit_6_C, .bit_6_D, .bit_6_E, .bit_6_H, .bit_6_L, .bit_6_atHL, .bit_6_A, .bit_7_B, .bit_7_C, .bit_7_D, .bit_7_E, .bit_7_H, .bit_7_L, .bit_7_atHL, .bit_7_A] : List Instr).map some := by decide
theorem test_decode_cb_8x : ([0xCB80, 0xCB81, 0xCB82, 0xCB83, 0xCB84, 0xCB85, 0xCB86, 0xCB87, 0xCB88, 0xCB89, 0xCB8A, 0xCB8B, 0xCB8C, 0xCB8D, 0xCB8E, 0xCB8F].map (decodeTableWord 16)) =
    ([.res_0_B, .res_0_C, .res_0_D, .res_0_E, .res_0_H, .res_0_L, .res_0_atHL, .res_0_A, .res_1_B, .res_1_C, .res_1_D, .res_1_E, .res_1_H, .res_1_L, .res_1_atHL, .res_1_A] : List Instr).map some := by decide
theorem test_decode_cb_9x : ([0xCB90, 0xCB91, 0xCB92, 0xCB93, 0xCB94, 0xCB95, 0xCB96, 0xCB97, 0xCB98, 0xCB99, 0xCB9A, 0xCB9B, 0xCB9C, 0xCB9D, 0xCB9E, 0xCB9F].map (decodeTableWord 16)) =
    ([.res_2_B, .res_2_C, .res_2_D, .res_2_E, .res_2_H, .res_2_L, .res_2_atHL, .res_2_A, .res_3_B, .res_3_C, .res_3_D, .res_3_E, .res_3_H, .res_3_L, .res_3_atHL, .res_3_A] : List Instr).map some := by decide
theorem test_decode_cb_Ax : ([0xCBA0, 0xCBA1, 0xCBA2, 0xCBA3, 0xCBA4, 0xCBA5, 0xCBA6, 0xCBA7, 0xCBA8, 0xCBA9, 0xCBAA, 0xCBAB, 0xCBAC, 0xCBAD, 0xCBAE, 0xCBAF].map (decodeTableWord 16)) =
    ([.res_4_B, .res_4_C, .res_4_D, .res_4_E, .res_4_H, .res_4_L, .res_4_atHL, .res_4_A, .res_5_B, .res_5_C, .res_5_D, .res_5_E, .res_5_H, .res_5_L, .res_5_atHL, .res_5_A] : List Instr).map some := by decide
theorem test_decode_cb_Bx : ([0xCBB0, 0xCBB1, 0xCBB2, 0xCBB3, 0xCBB4, 0xCBB5, 0xCBB6, 0xCBB7, 0xCBB8, 0xCBB9, 0xCBBA, 0xCBBB, 0xCBBC, 0xCBBD, 0xCBBE, 0xCBBF].map (decodeTableWord 16)) =
    ([.res_6_B, .res_6_C, .res_6_D, .res_6_E, .res_6_H, .res_6_L, .res_6_atHL, .res_6_A, .res_7_B, .res_7_C, .res_7_D, .res_7_E, .res_7_H, .res_7_L, .res_7_atHL, .res_7_A] : List Instr).map some := by decide
theorem test_decode_cb_Cx : ([0xCBC0, 0xCBC1, 0xCBC2, 0xCBC3, 0xCBC4, 0xCBC5, 0xCBC6, 0xCBC7, 0xCBC8, 0xCBC9, 0xCBCA, 0xCBCB, 0xCBCC, 0xCBCD, 0xCBCE, 0xCBCF].map (decodeTableWord 16)) =
    ([.set_0_B, .set_0_C, .set_0_D, .set_0_E, .set_0_H, .set_0_L, .set_0_atHL, .set_0_A, .set_1_B, .set_1_C, .set_1_D, .set_1_E, .set_1_H, .set_1_L, .set_1_atHL, .set_1_A] : List Instr).map some := by decide
theorem test_decode_cb_Dx : ([0xCBD0, 0xCBD1, 0xCBD2, 0xCBD3, 0xCBD4, 0xCBD5, 0xCBD6, 0xCBD7, 0xCBD8, 0xCBD9, 0xCBDA, 0xCBDB, 0xCBDC, 0xCBDD, 0xCBDE, 0xCBDF].map (decodeTableWord 16)) =
    ([.set_2_B, .set_2_C, .set_2_D, .set_2_E, .set_2_H, .set_2_L, .set_2_atHL, .set_2_A, .set_3_B, .set_3_C, .set_3_D, .set_3_E, .set_3_H, .set_3_L, .set_3_atHL, .set_3_A] : List Instr).map some := by decide
theorem test_decode_cb_Ex : ([0xCBE0, 0xCBE1, 0xCBE2, 0xCBE3, 0xCBE4, 0xCBE5, 0xCBE6, 0xCBE7, 0xCBE8, 0xCBE9, 0xCBEA, 0xCBEB, 0xCBEC, 0xCBED, 0xCBEE, 0xCBEF].map (decodeTableWord 16)) =
    ([.set_4_B, .set_4_C, .set_4_D, .set_4_E, .set_4_H, .set_4_L, .set_4_atHL, .set_4_A, .set_5_B, .set_5_C, .set_5_D, .set_5_E, .set_5_H, .set_5_L, .set_5_atHL, .set_5_A] : List Instr).map some := by decide
theorem test_decode_cb_Fx : ([0xCBF0, 0xCBF1, 0xCBF2, 0xCBF3, 0xCBF4, 0xCBF5, 0xCBF6, 0xCBF7, 0xCBF8, 0xCBF9, 0xCBFA, 0xCBFB, 0xCBFC, 0xCBFD, 0xCBFE, 0xCBFF].map (decodeTableWord 16)) =
    ([.set_6_B, .set_6_C, .set_6_D, .set_6_E, .set_6_H, .set_6_L, .set_6_atHL, .set_6_A, .set_7_B, .set_7_C, .set_7_D, .set_7_E, .set_7_H, .set_7_L, .set_7_atHL, .set_7_A] : List Instr).map some := by decide

/-! Words with operand bytes, written bit by bit (R75, R78). -/

theorem test_decode_d16_low_first : decodeTableWord 24 0b000100100011010000000001 = some (.ld_BC_d16 0x1234) := by decide
theorem test_decode_a16 : decodeTableWord 24 0b110100000000000011101010 = some (.ld_atA16_A 0xD000) := by decide
theorem test_decode_e8 : decodeTableWord 16 0b1111111000011000 = some (.jr_e8 0xFE) := by decide
theorem test_decode_d8 : decodeTableWord 16 0b0101101000111110 = some (.ld_A_d8 0x5A) := by decide
theorem test_decode_a8 : decodeTableWord 16 0b1000000011110000 = some (.ldh_A_atA8 0x80) := by decide

/-! ## A step fetches what `withFetchWord` placed -/

theorem test_fetch_word : (State.reset.withFetchWord 24 0x1234CD).bytesAtPC = [0xCD, 0x34, 0x12] := by decide
theorem test_fetch_word_instr : (fetchInstr (State.reset.withFetchWord 24 0x1234CD)).1 = .call_a16 0x1234 := by decide
theorem test_fetch_word_cb : (fetchInstr (State.reset.withFetchWord 16 0xCB37)).1 = .swap_A := by decide
theorem test_fetch_slot_unmapped : fetchSlot { State.reset with pc := 0x4000 } = 0x0100 := by decide

/-! ## One step (95_test_vectors.md)

`ran` is the state after one step that returned Ok. The states are the vectors' own: registers not named are zero. -/

def load (s : State) (cells : List (Word × Byte)) : State :=
  { s with mem := cells.foldl (fun m x => m.put x.1 x.2) s.mem }

def ran (s : State) (cells : List (Word × Byte)) : Option State :=
  match step (load s cells) with
  | .next t => some t
  | .fault _ => none
  | .refused _ => none

theorem test_step_18_FE : (ran State.reset [(0x0100, 0x18), (0x0101, 0xFE)]).map (fun t => (t.f, t.pc)) =
    some (0x00, 0x0100) := by decide
theorem test_step_80 : (ran { State.reset with a := 0x0F, b := 0x01 } [(0x0100, 0x80)]).map (fun t => (t.a, t.f, t.pc)) =
    some (0x10, 0x20, 0x0101) := by decide
theorem test_step_80_2 : (ran { State.reset with a := 0xFF, b := 0x01 } [(0x0100, 0x80)]).map (fun t => (t.a, t.f, t.pc)) =
    some (0x00, 0xB0, 0x0101) := by decide
theorem test_step_CD_34_12 : (ran { State.reset with sp := 0xFFFE } [(0x0100, 0xCD), (0x0101, 0x34), (0x0102, 0x12)]).map (fun t => (t.sp, t.pc, t.read 0xFFFD, t.read 0xFFFC, t.log)) =
    some (0xFFFC, 0x1234, 0xFF, 0xFF, [⟨0xFFFD, .writeUnmapped⟩, ⟨0xFFFC, .writeUnmapped⟩]) := by decide
theorem test_step_CD_34_12_2 : (ran { State.reset with sp := 0xD000 } [(0x0100, 0xCD), (0x0101, 0x34), (0x0102, 0x12)]).map (fun t => (t.f, t.sp, t.pc, t.read 0xCFFF, t.read 0xCFFE)) =
    some (0x00, 0xCFFE, 0x1234, 0x01, 0x03) := by decide
theorem test_step_41 : (ran { State.reset with b := 0x11, c := 0x22 } [(0x0100, 0x41)]).map (fun t => (t.f, t.b, t.pc)) =
    some (0x00, 0x22, 0x0101) := by decide
theorem test_step_46 : (ran { State.reset with h := 0xC1, l := 0x23 } [(0x0100, 0x46), (0xC123, 0x99)]).map (fun t => (t.f, t.b, t.pc)) =
    some (0x00, 0x99, 0x0101) := by decide
theorem test_step_6E : (ran { State.reset with h := 0xC1, l := 0x23 } [(0x0100, 0x6E), (0xC123, 0x99)]).map (fun t => (t.f, t.l, t.pc)) =
    some (0x00, 0x99, 0x0101) := by decide
theorem test_step_46_2 : (ran { State.reset with h := 0x40, l := 0x00 } [(0x0100, 0x46)]).map (fun t => (t.f, t.b, t.pc)) =
    some (0x00, 0xFF, 0x0101) := by decide
theorem test_step_74 : (ran { State.reset with h := 0xC1, l := 0x23 } [(0x0100, 0x74)]).map (fun t => (t.f, t.pc, t.read 0xC123)) =
    some (0x00, 0x0101, 0xC1) := by decide
theorem test_step_36_5A : (ran { State.reset with h := 0x9F, l := 0xFF } [(0x0100, 0x36), (0x0101, 0x5A)]).map (fun t => (t.f, t.pc, t.read 0x9FFF)) =
    some (0x00, 0x0102, 0x5A) := by decide
theorem test_step_36_5A_2 : (ran { State.reset with h := 0xA0, l := 0x00 } [(0x0100, 0x36), (0x0101, 0x5A)]).map (fun t => (t.f, t.pc, t.read 0xA000, t.log)) =
    some (0x00, 0x0102, 0xFF, [⟨0xA000, .writeUnmapped⟩]) := by decide
theorem test_step_0A : (ran { State.reset with b := 0x80, c := 0x01 } [(0x0100, 0x0A), (0x8001, 0x42)]).map (fun t => (t.a, t.f, t.pc)) =
    some (0x42, 0x00, 0x0101) := by decide
theorem test_step_12 : (ran { State.reset with a := 0x42, d := 0xCF, e := 0xFF } [(0x0100, 0x12)]).map (fun t => (t.f, t.pc, t.read 0xCFFF)) =
    some (0x00, 0x0101, 0x42) := by decide
theorem test_step_12_2 : (ran { State.reset with a := 0x42, d := 0xD0, e := 0x00 } [(0x0100, 0x12)]).map (fun t => (t.f, t.pc, t.read 0xD000, t.log)) =
    some (0x00, 0x0101, 0xFF, [⟨0xD000, .writeUnmapped⟩]) := by decide
theorem test_step_FA_34_C2 : (ran State.reset [(0x0100, 0xFA), (0x0101, 0x34), (0x0102, 0xC2), (0xC234, 0x5C)]).map (fun t => (t.a, t.f, t.pc)) =
    some (0x5C, 0x00, 0x0103) := by decide
theorem test_step_EA_FF_3F : (ran { State.reset with a := 0x9A } [(0x0100, 0xEA), (0x0101, 0xFF), (0x0102, 0x3F)]).map (fun t => (t.f, t.pc, t.read 0x3FFF, t.log)) =
    some (0x00, 0x0103, 0x00, [⟨0x3FFF, .writeToReadOnly⟩]) := by decide
theorem test_step_F0_80 : (ran { State.reset with a := 0x12 } [(0x0100, 0xF0), (0x0101, 0x80)]).map (fun t => (t.a, t.f, t.pc)) =
    some (0xFF, 0x00, 0x0102) := by decide
theorem test_step_E0_80 : (ran { State.reset with a := 0x12 } [(0x0100, 0xE0), (0x0101, 0x80)]).map (fun t => (t.f, t.pc, t.read 0xFF80, t.log)) =
    some (0x00, 0x0102, 0xFF, [⟨0xFF80, .writeUnmapped⟩]) := by decide
theorem test_step_F2 : (ran { State.reset with a := 0x12, c := 0x44 } [(0x0100, 0xF2)]).map (fun t => (t.a, t.f, t.pc)) =
    some (0xFF, 0x00, 0x0101) := by decide
theorem test_step_E2 : (ran { State.reset with a := 0x12, c := 0x44 } [(0x0100, 0xE2)]).map (fun t => (t.f, t.pc, t.read 0xFF44, t.log)) =
    some (0x00, 0x0101, 0xFF, [⟨0xFF44, .writeUnmapped⟩]) := by decide
theorem test_step_22 : (ran { State.reset with a := 0x77, h := 0xC0, l := 0xFF } [(0x0100, 0x22)]).map (fun t => (t.f, t.h, t.l, t.pc, t.read 0xC0FF)) =
    some (0x00, 0xC1, 0x00, 0x0101, 0x77) := by decide
theorem test_step_2A : (ran { State.reset with h := 0xCF, l := 0xFF } [(0x0100, 0x2A), (0xCFFF, 0x21)]).map (fun t => (t.a, t.f, t.h, t.l, t.pc)) =
    some (0x21, 0x00, 0xD0, 0x00, 0x0101) := by decide
theorem test_step_22_2 : (ran { State.reset with a := 0x77, h := 0xFF, l := 0xFF } [(0x0100, 0x22)]).map (fun t => (t.h, t.l, t.pc, t.read 0xFFFF, t.log)) =
    some (0x00, 0x00, 0x0101, 0xFF, [⟨0xFFFF, .writeUnmapped⟩]) := by decide
theorem test_step_32 : (ran { State.reset with a := 0x77, h := 0xC0, l := 0x00 } [(0x0100, 0x32)]).map (fun t => (t.f, t.h, t.l, t.pc, t.read 0xC000)) =
    some (0x00, 0xBF, 0xFF, 0x0101, 0x77) := by decide
theorem test_step_3A : (ran { State.reset with h := 0x00, l := 0x00 } [(0x0100, 0x3A)]).map (fun t => (t.f, t.h, t.l, t.pc)) =
    some (0x00, 0xFF, 0xFF, 0x0101) := by decide
theorem test_step_01_34_12 : (ran State.reset [(0x0100, 0x01), (0x0101, 0x34), (0x0102, 0x12)]).map (fun t => (t.f, t.b, t.c, t.pc)) =
    some (0x00, 0x12, 0x34, 0x0103) := by decide
theorem test_step_08_FF_9F : (ran { State.reset with sp := 0xABCD } [(0x0100, 0x08), (0x0101, 0xFF), (0x0102, 0x9F)]).map (fun t => (t.f, t.pc, t.read 0x9FFF, t.read 0xA000, t.log)) =
    some (0x00, 0x0103, 0xCD, 0xFF, [⟨0xA000, .writeUnmapped⟩]) := by decide
theorem test_step_08_FF_FF : (ran { State.reset with sp := 0xABCD } [(0x0100, 0x08), (0x0101, 0xFF), (0x0102, 0xFF)]).map (fun t => (t.f, t.pc, t.read 0xFFFF, t.read 0x0000, t.log)) =
    some (0x00, 0x0103, 0xFF, 0x00, [⟨0xFFFF, .writeUnmapped⟩, ⟨0x0000, .writeToReadOnly⟩]) := by decide
theorem test_step_F9 : (ran { State.reset with h := 0xCF, l := 0xF0 } [(0x0100, 0xF9)]).map (fun t => (t.f, t.sp, t.pc)) =
    some (0x00, 0xCFF0, 0x0101) := by decide
theorem test_step_F8_02 : (ran { State.reset with f := 0x80, sp := 0xCFFE } [(0x0100, 0xF8), (0x0101, 0x02)]).map (fun t => (t.f, t.h, t.pc)) =
    some (0x30, 0xD0, 0x0102) := by decide
theorem test_step_F8_80 : (ran { State.reset with sp := 0xD000 } [(0x0100, 0xF8), (0x0101, 0x80)]).map (fun t => (t.f, t.h, t.l, t.pc)) =
    some (0x00, 0xCF, 0x80, 0x0102) := by decide
theorem test_step_F5 : (ran { State.reset with a := 0x12, f := 0xB0, sp := 0xC002 } [(0x0100, 0xF5)]).map (fun t => (t.f, t.sp, t.pc, t.read 0xC001, t.read 0xC000)) =
    some (0xB0, 0xC000, 0x0101, 0x12, 0xB0) := by decide
theorem test_step_C1 : (ran { State.reset with sp := 0xC100 } [(0x0100, 0xC1), (0xC100, 0x34), (0xC101, 0x12)]).map (fun t => (t.f, t.b, t.c, t.sp, t.pc)) =
    some (0x00, 0x12, 0x34, 0xC102, 0x0101) := by decide
theorem test_step_F1 : (ran { State.reset with sp := 0xC100 } [(0x0100, 0xF1), (0xC100, 0xFF), (0xC101, 0x12)]).map (fun t => (t.a, t.f, t.sp, t.pc)) =
    some (0x12, 0xF0, 0xC102, 0x0101) := by decide
theorem test_step_F1_2 : (ran { State.reset with f := 0xF0, sp := 0xC100 } [(0x0100, 0xF1), (0xC100, 0x0F), (0xC101, 0x00)]).map (fun t => (t.f, t.sp, t.pc)) =
    some (0x00, 0xC102, 0x0101) := by decide
theorem test_step_E1 : (ran { State.reset with sp := 0xCFFF } [(0x0100, 0xE1), (0xCFFF, 0x77)]).map (fun t => (t.f, t.h, t.l, t.sp, t.pc)) =
    some (0x00, 0xFF, 0x77, 0xD001, 0x0101) := by decide
theorem test_step_86 : (ran { State.reset with a := 0x3C, h := 0xC0, l := 0x00 } [(0x0100, 0x86), (0xC000, 0x12)]).map (fun t => (t.a, t.f, t.pc)) =
    some (0x4E, 0x00, 0x0101) := by decide
theorem test_step_C6_FF : (ran { State.reset with a := 0x3C } [(0x0100, 0xC6), (0x0101, 0xFF)]).map (fun t => (t.a, t.f, t.pc)) =
    some (0x3B, 0x30, 0x0102) := by decide
theorem test_step_88 : (ran { State.reset with a := 0xE1, f := 0x10, b := 0x0F } [(0x0100, 0x88)]).map (fun t => (t.a, t.f, t.pc)) =
    some (0xF1, 0x20, 0x0101) := by decide
theorem test_step_88_2 : (ran { State.reset with a := 0xFF, f := 0x10, b := 0x00 } [(0x0100, 0x88)]).map (fun t => (t.a, t.f, t.pc)) =
    some (0x00, 0xB0, 0x0101) := by decide
theorem test_step_90 : (ran { State.reset with a := 0x3E, b := 0x3E } [(0x0100, 0x90)]).map (fun t => (t.a, t.f, t.pc)) =
    some (0x00, 0xC0, 0x0101) := by decide
theorem test_step_90_2 : (ran { State.reset with a := 0x3E, b := 0x0F } [(0x0100, 0x90)]).map (fun t => (t.a, t.f, t.pc)) =
    some (0x2F, 0x60, 0x0101) := by decide
theorem test_step_98 : (ran { State.reset with a := 0x3B, f := 0x10, b := 0x2A } [(0x0100, 0x98)]).map (fun t => (t.a, t.f, t.pc)) =
    some (0x10, 0x40, 0x0101) := by decide
theorem test_step_98_2 : (ran { State.reset with a := 0x00, f := 0x10, b := 0x00 } [(0x0100, 0x98)]).map (fun t => (t.a, t.f, t.pc)) =
    some (0xFF, 0x70, 0x0101) := by decide
theorem test_step_DE_FF : (ran { State.reset with a := 0x00, f := 0x10 } [(0x0100, 0xDE), (0x0101, 0xFF)]).map (fun t => (t.f, t.pc)) =
    some (0xF0, 0x0102) := by decide
theorem test_step_A0 : (ran { State.reset with a := 0x5A, f := 0x10, b := 0x3F } [(0x0100, 0xA0)]).map (fun t => (t.a, t.f, t.pc)) =
    some (0x1A, 0x20, 0x0101) := by decide
theorem test_step_A0_2 : (ran { State.reset with a := 0x5A, b := 0xA5 } [(0x0100, 0xA0)]).map (fun t => (t.a, t.f, t.pc)) =
    some (0x00, 0xA0, 0x0101) := by decide
theorem test_step_A8 : (ran { State.reset with a := 0xFF, f := 0xF0, b := 0x0F } [(0x0100, 0xA8)]).map (fun t => (t.a, t.f, t.pc)) =
    some (0xF0, 0x00, 0x0101) := by decide
theorem test_step_B0 : (ran { State.reset with a := 0x5A, f := 0xF0, b := 0x0F } [(0x0100, 0xB0)]).map (fun t => (t.a, t.f, t.pc)) =
    some (0x5F, 0x00, 0x0101) := by decide
theorem test_step_B8 : (ran { State.reset with a := 0x3C, b := 0x2F } [(0x0100, 0xB8)]).map (fun t => (t.f, t.pc)) =
    some (0x60, 0x0101) := by decide
theorem test_step_B8_2 : (ran { State.reset with a := 0x3C, b := 0x3C } [(0x0100, 0xB8)]).map (fun t => (t.f, t.pc)) =
    some (0xC0, 0x0101) := by decide
theorem test_step_BE : (ran { State.reset with a := 0x3C, h := 0xE0, l := 0x00 } [(0x0100, 0xBE)]).map (fun t => (t.f, t.pc)) =
    some (0x70, 0x0101) := by decide
theorem test_step_3C : (ran { State.reset with a := 0xFF, f := 0x10 } [(0x0100, 0x3C)]).map (fun t => (t.a, t.f, t.pc)) =
    some (0x00, 0xB0, 0x0101) := by decide
theorem test_step_04 : (ran { State.reset with b := 0x0F } [(0x0100, 0x04)]).map (fun t => (t.f, t.b, t.pc)) =
    some (0x20, 0x10, 0x0101) := by decide
theorem test_step_34 : (ran { State.reset with h := 0xC0, l := 0x00 } [(0x0100, 0x34), (0xC000, 0xFF)]).map (fun t => (t.f, t.pc, t.read 0xC000)) =
    some (0xA0, 0x0101, 0x00) := by decide
theorem test_step_34_2 : (ran { State.reset with h := 0x00, l := 0x00 } [(0x0100, 0x34), (0x0000, 0x0F)]).map (fun t => (t.f, t.pc, t.read 0x0000, t.log)) =
    some (0x20, 0x0101, 0x0F, [⟨0x0000, .writeToReadOnly⟩]) := by decide
theorem test_step_3D : (ran { State.reset with a := 0x01, f := 0x10 } [(0x0100, 0x3D)]).map (fun t => (t.a, t.f, t.pc)) =
    some (0x00, 0xD0, 0x0101) := by decide
theorem test_step_35 : (ran { State.reset with h := 0xC0, l := 0x00 } [(0x0100, 0x35), (0xC000, 0x10)]).map (fun t => (t.f, t.pc, t.read 0xC000)) =
    some (0x60, 0x0101, 0x0F) := by decide
theorem test_step_2F : (ran { State.reset with a := 0x35, f := 0x90 } [(0x0100, 0x2F)]).map (fun t => (t.a, t.f, t.pc)) =
    some (0xCA, 0xF0, 0x0101) := by decide
theorem test_step_37 : (ran { State.reset with f := 0xE0 } [(0x0100, 0x37)]).map (fun t => (t.f, t.pc)) =
    some (0x90, 0x0101) := by decide
theorem test_step_3F : (ran { State.reset with f := 0xF0 } [(0x0100, 0x3F)]).map (fun t => (t.f, t.pc)) =
    some (0x80, 0x0101) := by decide
theorem test_step_3F_2 : (ran { State.reset with f := 0x00 } [(0x0100, 0x3F)]).map (fun t => (t.f, t.pc)) =
    some (0x10, 0x0101) := by decide
theorem test_step_27 : (ran { State.reset with a := 0x9A, f := 0x00 } [(0x0100, 0x27)]).map (fun t => (t.a, t.f, t.pc)) =
    some (0x00, 0x90, 0x0101) := by decide
theorem test_step_27_2 : (ran { State.reset with a := 0x00, f := 0xF0 } [(0x0100, 0x27)]).map (fun t => (t.a, t.f, t.pc)) =
    some (0x9A, 0x50, 0x0101) := by decide
theorem test_step_09 : (ran { State.reset with f := 0x80, b := 0x06, c := 0x05, h := 0x8A, l := 0x23 } [(0x0100, 0x09)]).map (fun t => (t.f, t.h, t.l, t.pc)) =
    some (0xA0, 0x90, 0x28, 0x0101) := by decide
theorem test_step_29 : (ran { State.reset with h := 0x8A, l := 0x23 } [(0x0100, 0x29)]).map (fun t => (t.f, t.h, t.l, t.pc)) =
    some (0x30, 0x14, 0x46, 0x0101) := by decide
theorem test_step_19 : (ran { State.reset with d := 0x00, e := 0x01, h := 0x0F, l := 0xFF } [(0x0100, 0x19)]).map (fun t => (t.f, t.h, t.l, t.pc)) =
    some (0x20, 0x10, 0x00, 0x0101) := by decide
theorem test_step_19_2 : (ran { State.reset with d := 0x00, e := 0x01, h := 0x00, l := 0xFF } [(0x0100, 0x19)]).map (fun t => (t.f, t.h, t.l, t.pc)) =
    some (0x00, 0x01, 0x00, 0x0101) := by decide
theorem test_step_09_2 : (ran { State.reset with b := 0x80, c := 0x00, h := 0x80, l := 0x00 } [(0x0100, 0x09)]).map (fun t => (t.f, t.h, t.pc)) =
    some (0x10, 0x00, 0x0101) := by decide
theorem test_step_03 : (ran { State.reset with f := 0xF0, b := 0x00, c := 0xFF } [(0x0100, 0x03)]).map (fun t => (t.f, t.b, t.c, t.pc)) =
    some (0xF0, 0x01, 0x00, 0x0101) := by decide
theorem test_step_0B : (ran State.reset [(0x0100, 0x0B)]).map (fun t => (t.f, t.b, t.c, t.pc)) =
    some (0x00, 0xFF, 0xFF, 0x0101) := by decide
theorem test_step_3B : (ran { State.reset with sp := 0x0000 } [(0x0100, 0x3B)]).map (fun t => (t.f, t.sp, t.pc)) =
    some (0x00, 0xFFFF, 0x0101) := by decide
theorem test_step_E8_02 : (ran { State.reset with f := 0xC0, sp := 0xCFFE } [(0x0100, 0xE8), (0x0101, 0x02)]).map (fun t => (t.f, t.sp, t.pc)) =
    some (0x30, 0xD000, 0x0102) := by decide
theorem test_step_E8_80 : (ran { State.reset with sp := 0x0080 } [(0x0100, 0xE8), (0x0101, 0x80)]).map (fun t => (t.f, t.sp, t.pc)) =
    some (0x10, 0x0000, 0x0102) := by decide
theorem test_step_07 : (ran { State.reset with a := 0x85 } [(0x0100, 0x07)]).map (fun t => (t.a, t.f, t.pc)) =
    some (0x0B, 0x10, 0x0101) := by decide
theorem test_step_07_2 : (ran { State.reset with a := 0x00, f := 0xF0 } [(0x0100, 0x07)]).map (fun t => (t.f, t.pc)) =
    some (0x00, 0x0101) := by decide
theorem test_step_17 : (ran { State.reset with a := 0x95, f := 0x10 } [(0x0100, 0x17)]).map (fun t => (t.a, t.f, t.pc)) =
    some (0x2B, 0x10, 0x0101) := by decide
theorem test_step_17_2 : (ran { State.reset with a := 0x80 } [(0x0100, 0x17)]).map (fun t => (t.a, t.f, t.pc)) =
    some (0x00, 0x10, 0x0101) := by decide
theorem test_step_0F : (ran { State.reset with a := 0x3B } [(0x0100, 0x0F)]).map (fun t => (t.a, t.f, t.pc)) =
    some (0x9D, 0x10, 0x0101) := by decide
theorem test_step_1F : (ran { State.reset with a := 0x81 } [(0x0100, 0x1F)]).map (fun t => (t.a, t.f, t.pc)) =
    some (0x40, 0x10, 0x0101) := by decide
theorem test_step_1F_2 : (ran { State.reset with a := 0x01 } [(0x0100, 0x1F)]).map (fun t => (t.a, t.f, t.pc)) =
    some (0x00, 0x10, 0x0101) := by decide
theorem test_step_CB_00 : (ran { State.reset with b := 0x85 } [(0x0100, 0xCB), (0x0101, 0x00)]).map (fun t => (t.f, t.b, t.pc)) =
    some (0x10, 0x0B, 0x0102) := by decide
theorem test_step_CB_09 : (ran { State.reset with c := 0x01 } [(0x0100, 0xCB), (0x0101, 0x09)]).map (fun t => (t.f, t.c, t.pc)) =
    some (0x10, 0x80, 0x0102) := by decide
theorem test_step_CB_12 : (ran { State.reset with d := 0x80 } [(0x0100, 0xCB), (0x0101, 0x12)]).map (fun t => (t.f, t.d, t.pc)) =
    some (0x90, 0x00, 0x0102) := by decide
theorem test_step_CB_1B : (ran { State.reset with f := 0x10, e := 0x01 } [(0x0100, 0xCB), (0x0101, 0x1B)]).map (fun t => (t.f, t.e, t.pc)) =
    some (0x10, 0x80, 0x0102) := by decide
theorem test_step_CB_24 : (ran { State.reset with h := 0xFF } [(0x0100, 0xCB), (0x0101, 0x24)]).map (fun t => (t.f, t.h, t.pc)) =
    some (0x10, 0xFE, 0x0102) := by decide
theorem test_step_CB_2D : (ran { State.reset with l := 0x81 } [(0x0100, 0xCB), (0x0101, 0x2D)]).map (fun t => (t.f, t.l, t.pc)) =
    some (0x10, 0xC0, 0x0102) := by decide
theorem test_step_CB_37 : (ran { State.reset with a := 0xF0, f := 0x10 } [(0x0100, 0xCB), (0x0101, 0x37)]).map (fun t => (t.a, t.f, t.pc)) =
    some (0x0F, 0x00, 0x0102) := by decide
theorem test_step_CB_3F : (ran { State.reset with a := 0xFF } [(0x0100, 0xCB), (0x0101, 0x3F)]).map (fun t => (t.a, t.f, t.pc)) =
    some (0x7F, 0x10, 0x0102) := by decide
theorem test_step_CB_3F_2 : (ran { State.reset with a := 0x01 } [(0x0100, 0xCB), (0x0101, 0x3F)]).map (fun t => (t.a, t.f, t.pc)) =
    some (0x00, 0x90, 0x0102) := by decide
theorem test_step_CB_06 : (ran { State.reset with h := 0xC0, l := 0x00 } [(0x0100, 0xCB), (0x0101, 0x06), (0xC000, 0x85)]).map (fun t => (t.f, t.pc, t.read 0xC000)) =
    some (0x10, 0x0102, 0x0B) := by decide
theorem test_step_CB_26 : (ran { State.reset with h := 0x00, l := 0x00 } [(0x0100, 0xCB), (0x0101, 0x26), (0x0000, 0x80)]).map (fun t => (t.f, t.pc, t.read 0x0000, t.log)) =
    some (0x90, 0x0102, 0x80, [⟨0x0000, .writeToReadOnly⟩]) := by decide
theorem test_step_CB_3E : (ran { State.reset with h := 0xE0, l := 0x00 } [(0x0100, 0xCB), (0x0101, 0x3E)]).map (fun t => (t.f, t.pc, t.read 0xE000, t.log)) =
    some (0x10, 0x0102, 0xFF, [⟨0xE000, .writeUnmapped⟩]) := by decide
theorem test_step_CB_7F : (ran { State.reset with a := 0x80, f := 0x10 } [(0x0100, 0xCB), (0x0101, 0x7F)]).map (fun t => (t.f, t.pc)) =
    some (0x30, 0x0102) := by decide
theorem test_step_CB_5E : (ran { State.reset with h := 0xC0, l := 0x00 } [(0x0100, 0xCB), (0x0101, 0x5E), (0xC000, 0x08)]).map (fun t => (t.f, t.pc)) =
    some (0x20, 0x0102) := by decide
theorem test_step_CB_76 : (ran { State.reset with h := 0xFF, l := 0x80 } [(0x0100, 0xCB), (0x0101, 0x76)]).map (fun t => (t.f, t.pc)) =
    some (0x20, 0x0102) := by decide
theorem test_step_CB_87 : (ran { State.reset with a := 0xFF, f := 0xF0 } [(0x0100, 0xCB), (0x0101, 0x87)]).map (fun t => (t.a, t.f, t.pc)) =
    some (0xFE, 0xF0, 0x0102) := by decide
theorem test_step_CB_BE : (ran { State.reset with h := 0xC0, l := 0x00 } [(0x0100, 0xCB), (0x0101, 0xBE), (0xC000, 0xFF)]).map (fun t => (t.f, t.pc, t.read 0xC000)) =
    some (0x00, 0x0102, 0x7F) := by decide
theorem test_step_CB_FF : (ran { State.reset with a := 0x00 } [(0x0100, 0xCB), (0x0101, 0xFF)]).map (fun t => (t.a, t.f, t.pc)) =
    some (0x80, 0x00, 0x0102) := by decide
theorem test_step_CB_CB : (ran { State.reset with e := 0x00 } [(0x0100, 0xCB), (0x0101, 0xCB)]).map (fun t => (t.f, t.e, t.pc)) =
    some (0x00, 0x02, 0x0102) := by decide
theorem test_step_CB_C6 : (ran { State.reset with h := 0x00, l := 0x10 } [(0x0100, 0xCB), (0x0101, 0xC6)]).map (fun t => (t.f, t.pc, t.read 0x0010, t.log)) =
    some (0x00, 0x0102, 0x00, [⟨0x0010, .writeToReadOnly⟩]) := by decide
theorem test_step_C3_34_12 : (ran State.reset [(0x0100, 0xC3), (0x0101, 0x34), (0x0102, 0x12)]).map (fun t => (t.f, t.pc)) =
    some (0x00, 0x1234) := by decide
theorem test_step_C2_34_12 : (ran { State.reset with f := 0x00 } [(0x0100, 0xC2), (0x0101, 0x34), (0x0102, 0x12)]).map (fun t => (t.f, t.pc)) =
    some (0x00, 0x1234) := by decide
theorem test_step_C2_34_12_2 : (ran { State.reset with f := 0x80 } [(0x0100, 0xC2), (0x0101, 0x34), (0x0102, 0x12)]).map (fun t => (t.f, t.pc)) =
    some (0x80, 0x0103) := by decide
theorem test_step_DA_34_12 : (ran { State.reset with f := 0x10 } [(0x0100, 0xDA), (0x0101, 0x34), (0x0102, 0x12)]).map (fun t => (t.f, t.pc)) =
    some (0x10, 0x1234) := by decide
theorem test_step_E9 : (ran { State.reset with h := 0xC0, l := 0x10 } [(0x0100, 0xE9)]).map (fun t => (t.f, t.pc)) =
    some (0x00, 0xC010) := by decide
theorem test_step_18_80 : (ran State.reset [(0x0100, 0x18), (0x0101, 0x80)]).map (fun t => (t.f, t.pc)) =
    some (0x00, 0x0082) := by decide
theorem test_step_18_80_2 : (ran { State.reset with pc := 0x0000 } [(0x0000, 0x18), (0x0001, 0x80)]).map (fun t => (t.f, t.pc)) =
    some (0x00, 0xFF82) := by decide
theorem test_step_20_05 : (ran { State.reset with f := 0x00 } [(0x0100, 0x20), (0x0101, 0x05)]).map (fun t => (t.f, t.pc)) =
    some (0x00, 0x0107) := by decide
theorem test_step_20_05_2 : (ran { State.reset with f := 0x80 } [(0x0100, 0x20), (0x0101, 0x05)]).map (fun t => (t.f, t.pc)) =
    some (0x80, 0x0102) := by decide
theorem test_step_38_FB : (ran { State.reset with f := 0x10 } [(0x0100, 0x38), (0x0101, 0xFB)]).map (fun t => (t.f, t.pc)) =
    some (0x10, 0x00FD) := by decide
theorem test_step_C4_34_12 : (ran { State.reset with f := 0x80, sp := 0xD000 } [(0x0100, 0xC4), (0x0101, 0x34), (0x0102, 0x12)]).map (fun t => (t.f, t.pc)) =
    some (0x80, 0x0103) := by decide
theorem test_step_CC_34_12 : (ran { State.reset with f := 0x80, sp := 0xD000 } [(0x0100, 0xCC), (0x0101, 0x34), (0x0102, 0x12)]).map (fun t => (t.f, t.sp, t.pc, t.read 0xCFFF, t.read 0xCFFE)) =
    some (0x80, 0xCFFE, 0x1234, 0x01, 0x03) := by decide
theorem test_step_CD_00_C0 : (ran { State.reset with sp := 0xC002, pc := 0x3FFD } [(0x3FFD, 0xCD), (0x3FFE, 0x00), (0x3FFF, 0xC0)]).map (fun t => (t.f, t.sp, t.pc, t.read 0xC001, t.read 0xC000)) =
    some (0x00, 0xC000, 0xC000, 0x40, 0x00) := by decide
theorem test_step_C9 : (ran { State.reset with sp := 0xCFFE } [(0x0100, 0xC9), (0xCFFE, 0x03), (0xCFFF, 0x01)]).map (fun t => (t.f, t.sp, t.pc)) =
    some (0x00, 0xD000, 0x0103) := by decide
theorem test_step_C9_2 : (ran { State.reset with sp := 0xFFFC } [(0x0100, 0xC9)]).map (fun t => (t.f, t.sp, t.pc)) =
    some (0x00, 0xFFFE, 0xFFFF) := by decide
theorem test_step_C0 : (ran { State.reset with f := 0x80, sp := 0xCFFE } [(0x0100, 0xC0), (0xCFFE, 0x03), (0xCFFF, 0x01)]).map (fun t => (t.f, t.pc)) =
    some (0x80, 0x0101) := by decide
theorem test_step_C8 : (ran { State.reset with f := 0x80, sp := 0xCFFE } [(0x0100, 0xC8), (0xCFFE, 0x03), (0xCFFF, 0x01)]).map (fun t => (t.f, t.sp, t.pc)) =
    some (0x80, 0xD000, 0x0103) := by decide
theorem test_step_D9 : (ran { State.reset with sp := 0xCFFE } [(0x0100, 0xD9), (0xCFFE, 0x03), (0xCFFF, 0x01)]).map (fun t => (t.f, t.sp, t.pc, t.ime)) =
    some (0x00, 0xD000, 0x0103, true) := by decide
theorem test_step_DF : (ran { State.reset with sp := 0xD000 } [(0x0100, 0xDF)]).map (fun t => (t.f, t.sp, t.pc, t.read 0xCFFF, t.read 0xCFFE)) =
    some (0x00, 0xCFFE, 0x0018, 0x01, 0x01) := by decide
theorem test_step_FF : (ran { State.reset with sp := 0xD000 } [(0x0100, 0xFF)]).map (fun t => (t.f, t.sp, t.pc, t.read 0xCFFF, t.read 0xCFFE)) =
    some (0x00, 0xCFFE, 0x0038, 0x01, 0x01) := by decide
theorem test_step_unmapped_fetch : (ran { State.reset with sp := 0xD000, pc := 0x4000 } []).map (fun t => (t.f, t.sp, t.pc, t.read 0xCFFF, t.read 0xCFFE)) =
    some (0x00, 0xCFFE, 0x0038, 0x40, 0x01) := by decide
theorem test_step_00 : (ran { State.reset with a := 0x12, f := 0xF0 } [(0x0100, 0x00)]).map (fun t => (t.f, t.pc)) =
    some (0xF0, 0x0101) := by decide
theorem test_step_76 : (ran State.reset [(0x0100, 0x76)]).map (fun t => (t.f, t.pc, t.execState)) =
    some (0x00, 0x0101, .halted) := by decide
theorem test_step_F3 : (ran { State.reset with ime := true } [(0x0100, 0xF3)]).map (fun t => (t.f, t.pc, t.ime)) =
    some (0x00, 0x0101, false) := by decide
theorem test_step_FB : (ran State.reset [(0x0100, 0xFB)]).map (fun t => (t.f, t.pc, t.ime)) =
    some (0x00, 0x0101, true) := by decide

/-! A value with no entry (95_test_vectors.md 2.7), and a step that is not Running (2.8). -/

theorem test_step_DD : Driver.step (load { State.reset with a := 0x12, f := 0xF0, sp := 0xD000 } [(0x0100, 0xDD)]) =
    (.decodeError 0xDD 0x0100, load { State.reset with a := 0x12, f := 0xF0, sp := 0xD000, pc := 0x0101 } [(0x0100, 0xDD)]) := by decide
theorem test_step_10 : (Driver.step (load State.reset [(0x0100, 0x10)])).1 = .decodeError 0x10 0x0100 := by decide
theorem test_inspect_hides_IME :
    (Driver.apply .inspect { State.reset with ime := true }).1 = (Driver.apply .inspect State.reset).1 := by decide
theorem test_inspect_shows_A :
    (Driver.apply .inspect { State.reset with a := 0x12 }).1 ≠ (Driver.apply .inspect State.reset).1 := by decide
theorem test_stopped : (Driver.applyAll [.stopRequest, .wake, .step] State.reset).execState = .stopped := by decide
theorem test_wake_not_latched :
    (Driver.applyAll [.wake, .step, .step] (load State.reset [(0x0100, 0x76)])).execState = .halted := by decide

/-! ## The bus accesses of one step, in order (95_test_vectors.md section 4) -/

theorem test_bus_CD_34_12 : busTrace (load { State.reset with sp := 0xD000 } [(0x0100, 0xCD), (0x0101, 0x34), (0x0102, 0x12)]) =
    [.read 0x0100 0xCD, .read 0x0101 0x34, .read 0x0102 0x12, .write 0xCFFF 0x01, .write 0xCFFE 0x03] := by decide
theorem test_bus_C4_34_12 : busTrace (load { State.reset with f := 0x80, sp := 0xD000 } [(0x0100, 0xC4), (0x0101, 0x34), (0x0102, 0x12)]) =
    [.read 0x0100 0xC4, .read 0x0101 0x34, .read 0x0102 0x12] := by decide
theorem test_bus_C9 : busTrace (load { State.reset with sp := 0xCFFE } [(0x0100, 0xC9), (0xCFFE, 0x03), (0xCFFF, 0x01)]) =
    [.read 0x0100 0xC9, .read 0xCFFE 0x03, .read 0xCFFF 0x01] := by decide
theorem test_bus_08_00_C1 : busTrace (load { State.reset with sp := 0xABCD } [(0x0100, 0x08), (0x0101, 0x00), (0x0102, 0xC1)]) =
    [.read 0x0100 0x08, .read 0x0101 0x00, .read 0x0102 0xC1, .write 0xC100 0xCD, .write 0xC101 0xAB] := by decide
theorem test_bus_34 : busTrace (load { State.reset with h := 0xC0, l := 0x00 } [(0x0100, 0x34), (0xC000, 0x41)]) =
    [.read 0x0100 0x34, .read 0xC000 0x41, .write 0xC000 0x42] := by decide
theorem test_bus_CB_46 : busTrace (load { State.reset with h := 0xC0, l := 0x00 } [(0x0100, 0xCB), (0x0101, 0x46), (0xC000, 0x85)]) =
    [.read 0x0100 0xCB, .read 0x0101 0x46, .read 0xC000 0x85] := by decide
theorem test_bus_CB_C6 : busTrace (load { State.reset with h := 0x00, l := 0x10 } [(0x0100, 0xCB), (0x0101, 0xC6)]) =
    [.read 0x0100 0xCB, .read 0x0101 0xC6, .read 0x0010 0x00, .write 0x0010 0x01] := by decide
theorem test_bus_E0_44 : busTrace (load { State.reset with a := 0x77 } [(0x0100, 0xE0), (0x0101, 0x44)]) =
    [.read 0x0100 0xE0, .read 0x0101 0x44, .write 0xFF44 0x77] := by decide
theorem test_bus_2A : busTrace (load { State.reset with h := 0xC0, l := 0x00 } [(0x0100, 0x2A), (0xC000, 0x55)]) =
    [.read 0x0100 0x2A, .read 0xC000 0x55] := by decide
theorem test_bus_DD_01 : busTrace (load State.reset [(0x0100, 0xDD), (0x0101, 0x01)]) =
    [.read 0x0100 0xDD] := by decide

/-! ## Witnesses: for each statement with hypotheses, a state and operands that meet them

Named after the statement; several for one statement stand at its clauses, at the ends of their ranges. -/

theorem witness_DecodeInvertsEncode : (Instr.call_NC_a16 0xFFFF).wellFormed = true ∧ Instr.set_7_atHL.wellFormed = true := by decide
theorem witness_EncodeInvertsDecode : decode [0xCD, 0x34, 0x12, 0x00] = .ok (.call_a16 0x1234, [0x00]) := by rfl
theorem witness_FirstByteFixesLength_short : (2 : Nat) ≤ [(0x00 : Byte), 0x00].length ∧ [(0x00 : Byte)].length < 2 := by decide
theorem witness_FirstByteFixesLength_cb : (0xCB : Byte) = 0xCB ∧ ([] : List Byte).length < 1 := by decide
theorem witness_StepRunsTheDecoded : State.reset.execState = .running ∧ decode State.reset.bytesAtPC = .ok (.nop, [0x00, 0x00]) :=
  ⟨by decide, by rfl⟩
theorem witness_CbByteSelectsSecondTable :
    (load State.reset [(0x0100, 0xCB), (0x0101, 0xCB)]).execState = .running ∧
    (load State.reset [(0x0100, 0xCB), (0x0101, 0xCB)]).read 0x0100 = 0xCB := by decide

theorem inv_reset : State.reset.Inv := ⟨by decide, by decide⟩
theorem inv_ram : (load { State.reset with f := 0xF0 } [(0x0100, 0x3C), (0xCFFF, 0x01)]).Inv := ⟨by decide, by decide⟩

theorem witness_StepKeepsInvariant : State.reset.Inv ∧ step State.reset = .next { State.reset with pc := 0x0101 } :=
  ⟨inv_reset, rfl⟩
theorem witness_TransactionsKeepInvariant : (load { State.reset with f := 0xF0 } [(0x0100, 0x3C), (0xCFFF, 0x01)]).Inv := inv_ram
theorem witness_CanonicalMemoryIsUnique :
    ∃ m n : Memory, m.wf = true ∧ n.wf = true ∧ (∀ a, m.get a = n.get a) ∧ m ≠ [] :=
  ⟨[(0x8000, 0x01)], [(0x8000, 0x01)], by decide, by decide, fun _ => rfl, by decide⟩
theorem witness_ConstructResets_rom : (0x3FFF : Word) ≤ 0x3FFF := by decide
theorem witness_ConstructResets_ram : (0x8000 : Word) ≤ 0x9FFF ∧ (0xC000 : Word) ≤ 0xCFFF := by decide
theorem witness_PairsAreHalves :
    (Reg16.AF, Reg8.A, Reg8.F) ∈ [(Reg16.AF, Reg8.A, Reg8.F), (.BC, .B, .C), (.DE, .D, .E), (.HL, .H, .L)] := by decide

/-! R43, each region at both ends, what the write does there. -/

theorem witness_BusWrite_vram : (State.reset.write 0x8000 0xA5).read 0x8000 = 0xA5 ∧ (State.reset.write 0x9FFF 0xA5).read 0x9FFF = 0xA5 := by decide
theorem witness_BusWrite_wram : (State.reset.write 0xC000 0xA5).read 0xC000 = 0xA5 ∧ (State.reset.write 0xCFFF 0xA5).read 0xCFFF = 0xA5 := by decide
theorem witness_BusWrite_rom :
    (State.reset.write 0x0000 0xA5).log = [⟨0x0000, .writeToReadOnly⟩] ∧ (State.reset.write 0x3FFF 0xA5).log = [⟨0x3FFF, .writeToReadOnly⟩] := by decide
theorem witness_BusWrite_low_hole :
    (State.reset.write 0x4000 0xA5).log = [⟨0x4000, .writeUnmapped⟩] ∧ (State.reset.write 0x7FFF 0xA5).log = [⟨0x7FFF, .writeUnmapped⟩] := by decide
theorem witness_BusWrite_mid_hole :
    (State.reset.write 0xA000 0xA5).log = [⟨0xA000, .writeUnmapped⟩] ∧ (State.reset.write 0xBFFF 0xA5).log = [⟨0xBFFF, .writeUnmapped⟩] := by decide
theorem witness_BusWrite_high_hole :
    (State.reset.write 0xD000 0xA5).log = [⟨0xD000, .writeUnmapped⟩] ∧ (State.reset.write 0xFFFF 0xA5).read 0xFFFF = 0xFF := by decide
theorem witness_BusWrite_other : (0x8001 : Word) ≠ 0x8000 := by decide

theorem witness_StackRoundTrip : region (0x8002 - 1) = .vram ∧ region (0x8002 - 2) = .vram ∧ region (0xD000 - 1) = .wram := by decide
theorem witness_RomNeverChanges_step : (∀ rom regs, Transaction.step ≠ .construct rom regs) ∧ (0x3FFF : Word) ≤ 0x3FFF :=
  ⟨nofun, by decide⟩
theorem witness_RomNeverChanges_unmapped :
    State.reset.read 0x4000 = 0xFF ∧ State.reset.read 0x7FFF = 0xFF ∧ State.reset.read 0xA000 = 0xFF ∧
    State.reset.read 0xBFFF = 0xFF ∧ State.reset.read 0xD000 = 0xFF := by decide
theorem witness_LogGrowsByAtMostTwo_next :
    (ran { State.reset with sp := 0x0001 } [(0x0100, 0xC5)]).map (fun t => t.log) =
      some [⟨0x0000, .writeToReadOnly⟩, ⟨0xFFFF, .writeUnmapped⟩] := by decide

/-- A state at a value with no entry. -/
def atDD : State := load State.reset [(0x0100, 0xDD)]

theorem witness_LogGrowsByAtMostTwo_fault : step atDD = .fault (.decodeError 0xDD 0x0100) := rfl
theorem witness_OnlyListedStateIsWritten : exec .nop State.reset = .next State.reset := rfl
theorem witness_OnlyListedStateIsWritten_lists :
    writesSP (selected Instr.nop.form) = false ∧ writesPC (selected Instr.nop.form) = false ∧ writesIME (selected Instr.nop.form) = false ∧
    Instr.nop.form ≠ .halt ∧ writesBus (selected (Instr.cbPrefix 0x07).form) = false := by decide

theorem witness_StepFaultsExactlyOnNoEntry : atDD.execState = .running ∧ atDD.read atDD.pc ∈ noEntryOpcodes := by decide
theorem witness_StepFaultsExactlyOnNoEntry_else :
    ¬ (State.reset.execState = .running ∧ State.reset.read State.reset.pc ∈ noEntryOpcodes) := by decide
theorem witness_NoEntryRaisesDecodeError : Instr.no_entry_DD.form = .noEntry 0xDD ∧ (0xFD : Byte) ∈ noEntryOpcodes := by decide
theorem witness_NotRunningStepsDoNothing_halted : ({ State.reset with execState := .halted } : State).execState ≠ .running := by decide
theorem witness_NotRunningStepsDoNothing_stopped : ({ State.reset with execState := .stopped } : State).execState ≠ .running := by decide
theorem witness_ExecutorTransitions :
    (load State.reset [(0x0100, 0x76)]).execState = .running ∧ (load State.reset [(0x0100, 0x76)]).read 0x0100 = 0x76 := by decide
theorem witness_ExecutorTransitions_next : step State.reset = .next { State.reset with pc := 0x0101 } := rfl
theorem witness_ExecutorTransitions_fault : step atDD = .fault (.decodeError 0xDD 0x0100) := rfl

/-- Two memories that differ where the NOP at PC does not look. -/
theorem witness_BusTraceIsTheStep : ∀ a v, BusAccess.read a v ∈ busTrace State.reset →
    ({ State.reset with mem := [(0xC000, 0x01)] } : State).read a = v := by
  intro a v h
  have : ∀ x ∈ busTrace State.reset, x = .read 0x0100 0x00 := by decide
  cases this _ h
  decide
theorem witness_BusTraceIsTheStep_next : step State.reset = .next { State.reset with pc := 0x0101 } := rfl
theorem witness_BusTraceIsTheStep_states :
    State.reset.execState = .running ∧ atDD.read atDD.pc ∈ noEntryOpcodes ∧
    ({ State.reset with execState := .halted } : State).execState ≠ .running := by decide

/-! R296: a state of each kind is final, and a Running one that is none of them is not. -/

theorem witness_FinalStatesAreExactly_jr : (ran State.reset [(0x0100, 0x18), (0x0101, 0xFE)]) = some (load State.reset [(0x0100, 0x18), (0x0101, 0xFE)]) := by decide
theorem witness_FinalStatesAreExactly_jp :
    (ran State.reset [(0x0100, 0xC3), (0x0102, 0x01)]) = some (load State.reset [(0x0100, 0xC3), (0x0102, 0x01)]) := by decide
theorem witness_FinalStatesAreExactly_not : ran State.reset [(0x0100, 0x18), (0x0101, 0x00)] ≠ some (load State.reset [(0x0100, 0x18), (0x0101, 0x00)]) := by decide
theorem witness_FlagEffectsFollowTheTable :
    Instr.scf.entry.flags = some ⟨.unaffected, .clear, .clear, .set⟩ ∧ State.reset.f &&& 0x0F = 0 := by decide
theorem witness_FlagEffectsFollowTheTable_next : exec .nop State.reset = .next State.reset := rfl

/-! The kinds of instruction: for each statement over a kind, an instruction of it at an extreme of its fields. -/

theorem witness_LoadRegisterFromRegister : Instr.ld_A_A.form = .ld_r_r .A .A := by decide
theorem witness_LoadRegisterFromByte : (Instr.ld_A_d8 0xFF).form = .ld_r_d8 .A 0xFF ∧ Instr.ld_L_atHL.form = .ld_r_atHL .L := by decide
theorem witness_StoreAtHL : Instr.ld_atHL_A.form = .ld_atHL_r .A ∧ (Instr.ld_atHL_d8 0xFF).form = .ld_atHL_d8 0xFF := by decide
theorem witness_LoadPairOrSP : (Instr.ld_SP_d16 0xFFFF).form = .ld_rr_d16 .SP 0xFFFF := by decide
theorem witness_LoadPairOrSP_pair : (Instr.ld_BC_d16 0).form = .ld_rr_d16 .BC 0 ∧ PairField.BC ≠ .SP := by decide
theorem witness_PushPair : Instr.push_AF.form = .push .AF ∧ State.reset.f &&& 0x0F = 0 := by decide
theorem witness_PopPair : Instr.pop_HL.form = .pop .HL ∧ StackField.HL ≠ .AF := by decide
theorem witness_PopAF :
    State.reset.f &&& 0x0F = 0 ∧ region (({ State.reset with sp := 0xC002 } : State).sp - 1) = .wram ∧
    region (({ State.reset with sp := 0xC002 } : State).sp - 2) = .wram := by decide
theorem witness_AddToA : AluInstr .add_A_A .add State.reset 0x00 [0x87] := .inl ⟨.A, by decide, by decide, by decide⟩
theorem witness_AddToA_atHL : AluInstr .add_A_atHL .add { State.reset with h := 0xFF } 0xFF [0x86] := .inr (.inl ⟨by decide, by decide, by decide⟩)
theorem witness_AddToA_d8 : AluInstr (.add_A_d8 0xFF) .add State.reset 0xFF [0xC6, 0xFF] := .inr (.inr ⟨by decide, by decide⟩)
theorem witness_SubtractAndCompare_sub : AluInstr .sub_B .sub { State.reset with b := 0x01 } 0x01 [0x90] := .inl ⟨.B, by decide, by decide, by decide⟩
theorem witness_SubtractAndCompare_cp : AluInstr (.cp_d8 0x3C) .cp State.reset 0x3C [0xFE, 0x3C] := .inr (.inr ⟨by decide, by decide⟩)
theorem witness_AddAndSubtractWithCarry_adc : AluInstr (.adc_A_d8 0xFF) .adc { State.reset with f := 0x10 } 0xFF [0xCE, 0xFF] := .inr (.inr ⟨by decide, by decide⟩)
theorem witness_AddAndSubtractWithCarry_sbc : AluInstr .sbc_A_atHL .sbc State.reset 0x00 [0x9E] := .inr (.inl ⟨by decide, by decide, by decide⟩)
theorem witness_LogicOnA : AluOp.or ∈ [AluOp.and, .xor, .or] ∧ AluInstr .or_A .or State.reset 0x00 [0xB7] := ⟨by decide, .inl ⟨.A, by decide, by decide, by decide⟩⟩
theorem witness_IncAndDecRegister : Instr.inc_A.form = .inc_r .A ∧ Instr.dec_B.form = .dec_r .B := by decide
theorem witness_DecimalAdjust : State.reset.getFlag .N = false ∧ ({ State.reset with f := 0x40 } : State).getFlag .N = true := by decide
theorem witness_AddToHL : Instr.add_HL_SP.form = .add_HL_rr .SP := by decide
theorem witness_IncAndDecPair : Instr.inc_SP.form = .inc_rr .SP ∧ Instr.dec_BC.form = .dec_rr .BC ∧ PairField.BC ≠ .SP := by decide
theorem witness_RotateA : (Instr.rra, RotOp.rr) ∈ [(Instr.rlca, RotOp.rlc), (.rrca, .rrc), (.rla, .rl), (.rra, .rr)] := by decide
theorem witness_RotateRegister : Instr.srl_A.form = .rot_r .srl .A := by decide
theorem witness_RotateAtHL : Instr.swap_atHL.form = .rot_atHL .swap := by decide
theorem witness_BitTest : Instr.bit_7_A.form = .bit_b_r 7 .A ∧ Instr.bit_0_atHL.form = .bit_b_atHL 0 := by decide
theorem witness_ResAndSetRegister : Instr.res_7_A.form = .res_b_r 7 .A ∧ Instr.set_0_B.form = .set_b_r 0 .B := by decide
theorem witness_ResAndSetAtHL : Instr.res_0_atHL.form = .res_b_atHL 0 ∧ Instr.set_7_atHL.form = .set_b_atHL 7 := by decide
theorem witness_AbsoluteJumps : (Instr.jp_C_a16 0xFFFF).form = .jp_cc .C 0xFFFF := by decide
theorem witness_RelativeJumps : (Instr.jr_NC_e8 0x80).form = .jr_cc .NC 0x80 := by decide
theorem witness_Calls_taken : (Instr.call_NZ_a16 0x1234).form = .call_cc .NZ 0x1234 ∧ State.reset.cond .NZ = true := by decide
theorem witness_Calls_not_taken : (Instr.call_Z_a16 0x1234).form = .call_cc .Z 0x1234 ∧ State.reset.cond .Z = false := by decide
theorem witness_Calls_rst : Instr.rst_38.form = .rst 7 := by decide
theorem witness_Returns : Instr.ret_NC.form = .ret_cc .NC ∧ State.reset.cond .NC = true ∧ Instr.ret_C.form = .ret_cc .C ∧ State.reset.cond .C = false := by decide

end Sys2Proof.Tests
end

section
/-! PROOFS: the family of 10_state.md. First what running an instruction keeps and shows, as lemmas over the kinds of
instruction; then the statements themselves. -/

namespace Sys2Proof.Machine

/-! ## The fetch -/

theorem fetchInstr_snd_log (s : State) : (fetchInstr s).2.log = s.log := by
  obtain ⟨pc, h⟩ := fetchInstr_state s
  rw [h]

theorem fetchInstr_snd_ime (s : State) : (fetchInstr s).2.ime = s.ime := by
  obtain ⟨pc, h⟩ := fetchInstr_state s
  rw [h]

theorem fetchInstr_snd_read (s : State) (a : Word) : (fetchInstr s).2.read a = s.read a := by
  obtain ⟨pc, h⟩ := fetchInstr_state s
  rw [h, State.read_withPc]

theorem fetchInstr_snd_inv {s : State} (h : s.Inv) : (fetchInstr s).2.Inv := by
  obtain ⟨pc, hp⟩ := fetchInstr_state s
  rw [hp]
  exact ⟨h.memory, h.lowNibble⟩

/-- An instruction that is no entry of the table is one of the values with no entry (R80). -/
theorem hasEntry_or_noEntry (f : Form) : f.hasEntry = true ∨ ∃ op, f = .noEntry op := by
  cases f with
  | noEntry op => exact .inr ⟨op, rfl⟩
  | _ => exact .inl rfl

/-- The meaning of a value with no entry (R80, R255, R256). -/
theorem exec_noEntry {i : Instr} {op : Byte} (h : i.form = .noEntry op) (s : State) :
    exec i s = .fault (.decodeError op (s.pc - 1)) := by
  rw [exec_eq_run, h]
  rfl

/-! ## The invariant -/

theorem State.inv_atStep {s : State} (x : AtField) (h : s.Inv) : (s.atStep x).Inv := by
  cases x with
  | BC | DE => exact h
  | HLinc | HLdec => exact State.inv_set16 .HL _ h

theorem inv_aluA {s : State} (op : AluOp) (v : Byte) (h : s.Inv) : (aluA op v s).Inv := by
  unfold aluA
  cases op with
  | cp => exact State.inv_setFlags _ h
  | _ => exact State.inv_setFlags _ (State.inv_set8 .A _ h)

theorem inv_ret {s : State} (h : s.Inv) : (ret s).Inv := State.inv_jump _ (State.inv_pop h)

theorem inv_call {s : State} (aa : Word) (h : s.Inv) : (call aa s).Inv := State.inv_jump aa (State.inv_push _ h)

theorem State.inv_ite {s t : State} {b : Bool} (ht : t.Inv) (hs : s.Inv) : (if b then t else s).Inv := by
  split
  · exact ht
  · exact hs

/-- Every instruction but the CB byte keeps the invariant: it is made of operations that do. -/
theorem run_inv_noCB (f : Form) {s : State} (hf : ∀ o, f ≠ .cbPrefix o) (h : s.Inv) : (f.run s).Inv := by
  cases f with
  | cbPrefix o => exact absurd rfl (hf o)
  | nop | noEntry => exact h
  | halt | di | ei => exact ⟨h.memory, h.lowNibble⟩
  | ld_r_r | ld_r_d8 | ld_r_atHL | res_b_r | set_b_r => exact State.inv_set8 _ _ h
  | ld_A_atA16 | ldh_A_atA8 | ldh_A_atC => exact State.inv_set8 .A _ h
  | ld_rr_d16 | inc_rr | dec_rr => exact State.inv_set16 _ _ h
  | ld_SP_HL => exact State.inv_set16 .SP _ h
  | ld_atHL_r | ld_atHL_d8 | ld_atA16_A | ldh_atA8_A | ldh_atC_A | res_b_atHL | set_b_atHL =>
    exact State.inv_write _ _ h
  | ld_atA16_SP => exact State.inv_write _ _ (State.inv_write _ _ h)
  | ld_A_at x => exact State.inv_atStep x (State.inv_set8 .A _ h)
  | ld_at_A x => exact State.inv_atStep x (State.inv_write _ _ h)
  | push => exact State.inv_push _ h
  | pop => exact State.inv_set16 _ _ (State.inv_pop h)
  | alu_r | alu_atHL | alu_d8 => exact inv_aluA _ _ h
  | inc_r | dec_r | rot_r | daa | cpl | rlca | rla | rrca | rra =>
    simp only [Form.run, incReg, decReg, rotReg, daa, cpl, rotA]
    exact State.inv_setFlags _ (State.inv_set8 _ _ h)
  | inc_atHL | dec_atHL | rot_atHL =>
    simp only [Form.run, incHL, decHL, rotHL]
    exact State.inv_setFlags _ (State.inv_write _ _ h)
  | ld_HL_SPe8 | add_HL_rr | add_SP_e8 =>
    simp only [Form.run, loadHLSPe8, addHLPair, addSP]
    exact State.inv_setFlags _ (State.inv_set16 _ _ h)
  | scf | ccf | bit_b_r | bit_b_atHL =>
    simp only [Form.run, scf, ccf, bitReg, bitHL]
    exact State.inv_setFlags _ h
  | jp | jp_HL | jr => exact State.inv_jump _ h
  | jp_cc | jr_cc => exact State.inv_ite (State.inv_jump _ h) h
  | call | rst => exact inv_call _ h
  | call_cc => exact State.inv_ite (inv_call _ h) h
  | ret => exact inv_ret h
  | ret_cc => exact State.inv_ite (inv_ret h) h
  | reti => exact ⟨(inv_ret h).memory, (inv_ret h).lowNibble⟩

/-- Every instruction keeps the invariant, the CB byte as the instruction it selects. -/
theorem run_inv (f : Form) {s : State} (h : s.Inv) : (f.run s).Inv := by
  rw [run_selected]
  exact run_inv_noCB _ (selected_not_cb f) h

theorem inv_afterDecodeError {s : State} (h : s.Inv) : s.afterDecodeError.Inv := ⟨h.memory, h.lowNibble⟩

theorem inv_wake {s : State} (h : s.Inv) : (wake s).Inv :=
  ⟨by rw [State.wake_mem]; exact h.memory, by rw [State.wake_f]; exact h.lowNibble⟩

theorem inv_stopRequest {s : State} (h : s.Inv) : (stopRequest s).Inv :=
  ⟨by rw [State.stopRequest_mem]; exact h.memory, by rw [State.stopRequest_f]; exact h.lowNibble⟩

theorem inv_construct (rom : Word → Byte) (r : ResetRegs) : (construct rom r).Inv :=
  ⟨wf_construct rom r, lowNibble_mask r.f⟩

/-! ## The canonical form of memory -/

theorem Memory.wfFrom_cons {p k : Nat} {v : Byte} {m : Memory} :
    Memory.wfFrom p ((k, v) :: m) = true ↔
      p ≤ k ∧ k < 65536 ∧ region (BitVec.ofNat 16 k) ≠ .unmapped ∧ v ≠ unlisted (BitVec.ofNat 16 k) ∧
        m.wfFrom (k + 1) = true := by
  simp [Memory.wfFrom, and_assoc]

/-- Below its first cell a memory reads as unlisted. -/
theorem Memory.get_of_lt {m : Memory} {p : Nat} {a : Word} (h : m.wfFrom p = true) (ha : a.toNat < p) :
    m.get a = unlisted a := by
  induction m generalizing p with
  | nil => rfl
  | cons c rest ih =>
    obtain ⟨hp, -, -, -, hrest⟩ := Memory.wfFrom_cons.1 h
    rw [Memory.get, if_neg (by omega)]
    exact ih hrest (by omega)

theorem toNat_ofNat_of_lt {k : Nat} (h : k < 65536) : (BitVec.ofNat 16 k).toNat = k := by
  rw [BitVec.toNat_ofNat, Nat.mod_eq_of_lt h]

theorem Memory.get_head {k : Nat} (v : Byte) (m : Memory) (h : k < 65536) :
    Memory.get ((k, v) :: m) (BitVec.ofNat 16 k) = v := by
  rw [Memory.get, if_pos (toNat_ofNat_of_lt h).symm]

/-- A canonical memory that begins at a cell, and one that begins after it, read differently at that cell. -/
theorem Memory.get_ne_of_wfFrom_succ {p k : Nat} {v : Byte} {m n : Memory} (hm : Memory.wfFrom p ((k, v) :: m) = true)
    (hn : n.wfFrom (k + 1) = true) :
    Memory.get ((k, v) :: m) (BitVec.ofNat 16 k) ≠ n.get (BitVec.ofNat 16 k) := by
  obtain ⟨-, hk, -, hv, -⟩ := Memory.wfFrom_cons.1 hm
  rw [Memory.get_head v m hk, Memory.get_of_lt hn (by rw [toNat_ofNat_of_lt hk]; omega)]
  exact hv

/-- Memories with the same first cell that read alike have tails that read alike. -/
theorem Memory.get_tail {k : Nat} {v : Byte} {m n : Memory} (hm : m.wfFrom (k + 1) = true) (hn : n.wfFrom (k + 1) = true)
    (h : ∀ a, Memory.get ((k, v) :: m) a = Memory.get ((k, v) :: n) a) (a : Word) : m.get a = n.get a := by
  by_cases ha : k = a.toNat
  · rw [Memory.get_of_lt hm (by omega), Memory.get_of_lt hn (by omega)]
  · simpa [Memory.get, ha] using h a

/-- From any address on, canonical memories that read alike are equal. -/
theorem Memory.eq_of_get_eq {m n : Memory} {p : Nat} (hm : m.wfFrom p = true) (hn : n.wfFrom p = true)
    (h : ∀ a, m.get a = n.get a) : m = n := by
  induction m generalizing n p with
  | nil =>
    cases n with
    | nil => rfl
    | cons d n' => exact absurd (h _).symm (Memory.get_ne_of_wfFrom_succ hn rfl)
  | cons c m' ih =>
    cases n with
    | nil => exact absurd (h _) (Memory.get_ne_of_wfFrom_succ hm rfl)
    | cons d n' =>
      obtain ⟨k, v⟩ := c
      obtain ⟨j, w⟩ := d
      obtain ⟨-, hk, hkr, hkv, hm'⟩ := Memory.wfFrom_cons.1 hm
      obtain ⟨-, hj, hjr, hjw, hn'⟩ := Memory.wfFrom_cons.1 hn
      rcases Nat.lt_trichotomy k j with hkj | rfl | hjk
      · exact absurd (h _) (Memory.get_ne_of_wfFrom_succ hm (Memory.wfFrom_cons.2 ⟨hkj, hj, hjr, hjw, hn'⟩))
      · have hvw : v = w := by rw [← Memory.get_head v m' hk, h, Memory.get_head w n' hk]
        subst hvw
        rw [ih hm' hn' (Memory.get_tail hm' hn' h)]
      · exact absurd (h _).symm (Memory.get_ne_of_wfFrom_succ hn (Memory.wfFrom_cons.2 ⟨hjk, hk, hkr, hkv, hm'⟩))

/-! ## What `construct` builds -/

theorem read_construct_rom (rom : Word → Byte) (r : ResetRegs) {a : Word} (h : region a = .rom) :
    (construct rom r).read a = rom a := by
  have ha : a.toNat ≤ 0x3FFF := region_eq_rom.1 h
  rw [State.read_mapped _ (by rw [h]; decide), construct_mem]
  exact get_romCells_inside rom 0x4000 0 a (by omega) (by omega) (by omega)

theorem read_construct_ram (rom : Word → Byte) (r : ResetRegs) {a : Word} (h : region a = .vram ∨ region a = .wram) :
    (construct rom r).read a = 0x00 := by
  have ha : 0x4000 ≤ a.toNat := by
    rcases h with h | h
    · have := (region_eq_vram.1 h).1; bv_omega
    · have := (region_eq_wram.1 h).1; bv_omega
  rw [State.read_mapped _ (by rcases h with h | h <;> rw [h] <;> decide), construct_mem,
    get_romCells_outside rom 0x4000 0 a (.inr (by omega))]
  rcases h with h | h <;> simp [unlisted, h, Config.ramFill]

/-! ## ROM -/

/-- No instruction changes a byte of ROM (R43, R50). -/
theorem run_read_rom (f : Form) (s : State) {a : Word} (h : region a = .rom) : (f.run s).read a = s.read a := by
  obtain ⟨ops, -, -, hmem, -⟩ := run_bus f s
  rw [State.read_congr hmem]
  exact read_writes_rom s ops a (by rw [h]; decide) (by rw [h]; decide)

theorem step_read_rom {s t : State} (hst : step s = .next t) {a : Word} (h : region a = .rom) : t.read a = s.read a := by
  rcases next_of_step hst with ⟨-, -, rfl⟩ | ⟨-, rfl⟩
  · rw [run_read_rom _ _ h, fetchInstr_snd_read]
  · rfl

/-! ## The `step` transaction -/

theorem driverStep_next {s t : State} (h : step s = .next t) : Driver.step s = (.ok, t) := by
  unfold Driver.step
  rw [h]

theorem driverStep_fault {s : State} {op : Byte} {a : Word} (h : step s = .fault (.decodeError op a)) :
    Driver.step s = (.decodeError op a, s.afterDecodeError) := by
  unfold Driver.step
  rw [h]

/-- The state it leaves: that of a completed step, or PC past the opcode byte (R261). -/
theorem driverStep_snd (s : State) :
    (∃ t, step s = .next t ∧ (Driver.step s).2 = t) ∨ (Driver.step s).2 = s.afterDecodeError := by
  cases h : step s with
  | next t => exact .inl ⟨t, rfl, by rw [driverStep_next h]⟩
  | fault r =>
    obtain ⟨op, a⟩ := r
    exact .inr (by rw [driverStep_fault h])
  | refused r => exact absurd h (step_not_refused s r)

/-! ## The warning log -/

theorem length_warningsOf_le (a : Word) : (warningsOf a).length ≤ 1 := by
  unfold warningsOf
  split <;> simp

/-- A record of a byte write: for an address outside VRAM and WRAM, and of the kind of its region (R43, R262). -/
theorem of_mem_warningsOf {a : Word} {w : BusWarning} (h : w ∈ warningsOf a) :
    (w.kind = .writeToReadOnly ↔ region w.address = .rom) ∧ region w.address ≠ .vram ∧ region w.address ≠ .wram := by
  cases hr : region a with
  | vram | wram => simp [warningsOf, hr] at h
  | rom | unmapped =>
    obtain rfl : w = _ := by simpa [warningsOf, hr] using h
    simp [hr]

theorem length_flatMap_warningsOf_le (ops : List (Word × Byte)) :
    (ops.flatMap fun x => warningsOf x.1).length ≤ ops.length := by
  induction ops with
  | nil => exact Nat.le_refl 0
  | cons x rest ih =>
    have hx := length_warningsOf_le x.1
    simp only [List.flatMap_cons, List.length_append, List.length_cons]
    omega

/-- The records an instruction appends: those of at most two byte writes (R49, R262). -/
theorem run_log (f : Form) (s : State) :
    ∃ ws, (f.run s).log = s.log ++ ws ∧ ws.length ≤ 2 ∧ ∀ w ∈ ws, ∃ a, w ∈ warningsOf a := by
  obtain ⟨ops, hlen, -, -, hlog⟩ := run_bus f s
  refine ⟨ops.flatMap fun x => warningsOf x.1, by rw [hlog, log_writes], (length_flatMap_warningsOf_le ops).trans hlen, ?_⟩
  intro w hw
  obtain ⟨x, -, hx⟩ := List.mem_flatMap.1 hw
  exact ⟨x.1, hx⟩

theorem step_log {s t : State} (h : step s = .next t) :
    ∃ ws, t.log = s.log ++ ws ∧ ws.length ≤ 2 ∧ ∀ w ∈ ws, ∃ a, w ∈ warningsOf a := by
  rcases next_of_step h with ⟨-, -, rfl⟩ | ⟨-, rfl⟩
  · rw [← fetchInstr_snd_log s]
    exact run_log _ _
  · exact ⟨[], by simp⟩

/-! ## What an instruction leaves alone -/

/-- The CB byte does not select HALT (R79). -/
theorem cbInstr_not_halt (op2 : Byte) : (cbInstr op2).form ≠ .halt := by
  induction op2 using byte_cases with | h k hk
  interval_cases k <;> exact fun h => nomatch h

theorem selected_not_halt {f : Form} (h : f ≠ .halt) : selected f ≠ .halt := by
  cases f with
  | cbPrefix op2 => exact cbInstr_not_halt op2
  | _ => exact h

/-- Every instruction but HALT leaves alone what the lists do not give the instruction it selects (R24, R77). -/
theorem run_leaves_selected (f : Form) (s : State) (h : f ≠ .halt) :
    Leaves (writesRegs (selected f)) (writesSP (selected f)) (writesPC (selected f)) (writesIME (selected f)) s (f.run s) := by
  rw [run_selected]
  exact run_leaves _ s (selected_not_cb f) (selected_not_halt h)

theorem sameRegs_setFlag (s : State) (x : Flag) (v : Bool) : SameRegs [.F] s (s.setFlag x v) := by
  intro r hr
  cases r with
  | F => simp at hr
  | _ => rfl

theorem sameFlags_setFlag (s : State) (x : Flag) (v : Bool) : SameFlags [x] s (s.setFlag x v) := by
  refine ⟨fun y hy => ?_, lowNibble_putFlag s.f x v⟩
  rw [State.getFlag_setFlag, if_neg (by simpa using hy)]

theorem sameMemory_of_eq {s t : State} (hm : t.mem = s.mem) (hl : t.log = s.log) : SameMemory s t :=
  ⟨State.read_congr hm, hl⟩

/-! ## States that differ in IME and the log alone -/

/-- `t` is `s` but for IME and the log. -/
def State.Alike (s t : State) : Prop := ∃ b log, t = { s with ime := b, log := log }

namespace State.Alike

variable {s t : State}

theorem eq_with (h : s.Alike t) : t = { s with ime := t.ime, log := t.log } := by
  obtain ⟨b, log, rfl⟩ := h
  rfl

theorem set8 (r : Reg8) (v : Byte) (h : s.Alike t) : (s.set8 r v).Alike (t.set8 r v) := by
  obtain ⟨b, log, rfl⟩ := h
  cases r <;> exact ⟨b, log, rfl⟩

theorem set16 (r : Reg16) (w : Word) (h : s.Alike t) : (s.set16 r w).Alike (t.set16 r w) := by
  obtain ⟨b, log, rfl⟩ := h
  cases r <;> exact ⟨b, log, rfl⟩

theorem updFlag (x : Flag) (o : Option Bool) (h : s.Alike t) : (s.updFlag x o).Alike (t.updFlag x o) := by
  obtain ⟨b, log, rfl⟩ := h
  cases o <;> exact ⟨b, log, rfl⟩

theorem setFlags (u : FlagUpdate) (h : s.Alike t) : (s.setFlags u).Alike (t.setFlags u) :=
  (((h.updFlag .Z u.z).updFlag .N u.n).updFlag .H u.h).updFlag .C u.c

theorem write (a : Word) (v : Byte) (h : s.Alike t) : (s.write a v).Alike (t.write a v) := by
  obtain ⟨b, log, rfl⟩ := h
  unfold State.write
  split <;> exact ⟨_, _, rfl⟩

theorem withSp (w : Word) (h : s.Alike t) : ({ s with sp := w } : State).Alike { t with sp := w } := h.set16 .SP w

theorem atStep (x : AtField) (h : s.Alike t) : (s.atStep x).Alike (t.atStep x) := by
  obtain ⟨b, log, rfl⟩ := h
  cases x <;> exact ⟨b, log, rfl⟩

theorem push16 (w : Word) (h : s.Alike t) : (s.push16 w).Alike (t.push16 w) := by
  have hsp : t.sp = s.sp := by obtain ⟨b, log, rfl⟩ := h; rfl
  rw [State.push16_eq, State.push16_eq, hsp]
  exact ((h.withSp _).write _ _).write _ _

theorem jump (w : Word) (h : s.Alike t) : (jump w s).Alike (jump w t) := h.set16 .PC w

theorem ite {s' t' : State} {b : Bool} (h : s.Alike t) (h' : s'.Alike t') :
    (if b then s else s').Alike (if b then t else t') := by
  split
  · exact h
  · exact h'

end State.Alike

/-- The state with another IME and another log. -/
abbrev State.withHidden (b : Bool) (log : List BusWarning) (s : State) : State := { s with ime := b, log := log }

theorem alike_withHidden (b : Bool) (log : List BusWarning) (s : State) : s.Alike (s.withHidden b log) := ⟨b, log, rfl⟩

theorem alike_aluA {s t : State} (op : AluOp) (v : Byte) (h : s.Alike t) : (aluA op v s).Alike (aluA op v t) := by
  have ha : t.get8 .A = s.get8 .A := by obtain ⟨b, log, rfl⟩ := h; rfl
  have hc : t.getFlag .C = s.getFlag .C := by obtain ⟨b, log, rfl⟩ := h; rfl
  unfold aluA
  rw [ha, hc]
  cases op with
  | cp => exact h.setFlags _
  | _ => exact (h.set8 .A _).setFlags _

/-- An instruction other than the CB byte is made of operations that look at neither IME nor the log. -/
theorem run_alike_noCB (f : Form) (s : State) (b : Bool) (log : List BusWarning) (hf : ∀ o, f ≠ .cbPrefix o) :
    (f.run s).Alike (f.run (s.withHidden b log)) := by
  have h := alike_withHidden b log s
  cases f with
  | cbPrefix o => exact absurd rfl (hf o)
  | nop | noEntry => exact h
  | halt | di | ei | reti => exact ⟨_, _, rfl⟩
  | ld_r_r | ld_r_d8 | ld_r_atHL | res_b_r | set_b_r => exact h.set8 _ _
  | ld_A_atA16 | ldh_A_atA8 | ldh_A_atC => exact h.set8 .A _
  | ld_rr_d16 | inc_rr | dec_rr => exact h.set16 _ _
  | ld_SP_HL => exact h.set16 .SP _
  | ld_atHL_r | ld_atHL_d8 | ld_atA16_A | ldh_atA8_A | ldh_atC_A | res_b_atHL | set_b_atHL => exact h.write _ _
  | ld_atA16_SP => exact (h.write _ _).write _ _
  | ld_A_at x => exact (h.set8 .A _).atStep x
  | ld_at_A x => exact (h.write _ _).atStep x
  | push => exact h.push16 _
  | pop rr => exact (h.withSp _).set16 _ _
  | alu_r | alu_atHL | alu_d8 => exact alike_aluA _ _ h
  | inc_r | dec_r | rot_r | daa | cpl | rlca | rla | rrca | rra =>
    simp only [Form.run, incReg, decReg, rotReg, daa, cpl, rotA]
    exact (h.set8 _ _).setFlags _
  | inc_atHL | dec_atHL | rot_atHL =>
    simp only [Form.run, incHL, decHL, rotHL]
    exact (h.write _ _).setFlags _
  | ld_HL_SPe8 | add_HL_rr | add_SP_e8 =>
    simp only [Form.run, loadHLSPe8, addHLPair, addSP]
    exact (h.set16 _ _).setFlags _
  | scf | ccf | bit_b_r | bit_b_atHL =>
    simp only [Form.run, scf, ccf, bitReg, bitHL]
    exact h.setFlags _
  | jp | jp_HL | jr => exact h.jump _
  | jp_cc | jr_cc => exact .ite (h.jump _) h
  | call | rst => exact (h.push16 _).jump _
  | call_cc => exact .ite ((h.push16 _).jump _) h
  | ret => exact (h.withSp _).jump _
  | ret_cc => exact .ite ((h.withSp _).jump _) h

/-- No instruction looks at IME or the log: registers, flags and memory come out alike (R20, R265). -/
theorem run_alike (f : Form) (s : State) (b : Bool) (log : List BusWarning) :
    (f.run s).Alike (f.run (s.withHidden b log)) := by
  rw [run_selected f, run_selected f]
  exact run_alike_noCB _ s b log (selected_not_cb f)

/-- Nor do the bytes that it writes to the bus depend on them. -/
theorem dataWrites_withHidden (f : Form) (s : State) (b : Bool) (log : List BusWarning) :
    (s.withHidden b log).dataWrites f = s.dataWrites f := by
  cases f <;> rfl

/-- So it appends the same records. -/
theorem run_log_withHidden (f : Form) (s : State) (b : Bool) (log : List BusWarning) :
    ∃ ws, (f.run s).log = s.log ++ ws ∧ (f.run (s.withHidden b log)).log = log ++ ws := by
  refine ⟨(s.dataWrites (selected f)).flatMap fun x => warningsOf x.1, ?_, ?_⟩
  · rw [run_selected, (run_bus_noCB _ _ (selected_not_cb f)).2, log_writes]
  · rw [run_selected, (run_bus_noCB _ _ (selected_not_cb f)).2, log_writes, dataWrites_withHidden]

/-- IME after an instruction: one value for all states (DI, EI, RETI), or what it was (R265). -/
theorem run_ime (f : Form) (s t : State) :
    (f.run t).ime = (f.run s).ime ∨ ((f.run s).ime = s.ime ∧ (f.run t).ime = t.ime) := by
  by_cases hh : f = .halt
  · subst hh
    exact .inr ⟨rfl, rfl⟩
  by_cases hw : writesIME (selected f) = false
  · exact .inr ⟨(run_leaves_selected f s hh).ime hw, (run_leaves_selected f t hh).ime hw⟩
  · rw [run_selected f, run_selected f]
    cases hf : selected f with
    | di | ei | reti => exact .inl rfl
    | _ => rw [hf] at hw; exact absurd rfl hw

/-- An instruction run on two states that differ in IME and the log: the same next state but for the two, the same
records appended, and IME equal in both or unchanged in both. -/
theorem run_withHidden (f : Form) (s : State) (b : Bool) (log : List BusWarning) :
    ∃ ws, (f.run s).log = s.log ++ ws ∧
      f.run (s.withHidden b log) = { f.run s with ime := (f.run (s.withHidden b log)).ime, log := log ++ ws } ∧
      ((f.run (s.withHidden b log)).ime = (f.run s).ime ∨
        ((f.run s).ime = s.ime ∧ (f.run (s.withHidden b log)).ime = b)) := by
  obtain ⟨ws, hs, ht⟩ := run_log_withHidden f s b log
  refine ⟨ws, hs, ?_, run_ime f s _⟩
  rw [← ht]
  exact (run_alike f s b log).eq_with

/-- The fetch does not look at them either. -/
theorem fetchInstr_withHidden (s : State) (b : Bool) (log : List BusWarning) :
    fetchInstr (s.withHidden b log) = ((fetchInstr s).1, (fetchInstr s).2.withHidden b log) := by
  have hop : (s.withHidden b log).fetch8.1 = s.fetch8.1 := rfl
  simp only [fetchInstr, hop]
  cases (baseEntry s.fetch8.1).mode <;> rfl

/-- A step of two states that differ in IME and the log: as `run_withHidden` says, or the same DecodeError. -/
theorem step_withHidden (s : State) (b : Bool) (log : List BusWarning) :
    (∃ t u ws, step s = .next t ∧ step (s.withHidden b log) = .next u ∧ t.log = s.log ++ ws ∧
      u = { t with ime := u.ime, log := log ++ ws } ∧ (u.ime = t.ime ∨ (t.ime = s.ime ∧ u.ime = b))) ∨
    (∃ r, step s = .fault r ∧ step (s.withHidden b log) = .fault r) := by
  by_cases hr : s.execState = .running
  · rw [step_running hr, step_running (s := s.withHidden b log) hr, fetchInstr_withHidden s b log]
    rcases hasEntry_or_noEntry (fetchInstr s).1.form with he | ⟨op, hop⟩
    · obtain ⟨ws, hlog, hu, hime⟩ := run_withHidden (fetchInstr s).1.form (fetchInstr s).2 b log
      rw [fetchInstr_snd_log] at hlog
      rw [fetchInstr_snd_ime] at hime
      exact .inl ⟨_, _, ws, exec_next _ _ he, exec_next _ _ he, hlog, hu, hime⟩
    · exact .inr ⟨_, exec_noEntry hop _, exec_noEntry hop _⟩
  · rw [step_not_running hr, step_not_running (s := s.withHidden b log) hr]
    exact .inl ⟨s, _, [], rfl, rfl, by simp, by simp, .inr ⟨rfl, rfl⟩⟩

theorem wake_withIme (s : State) (b : Bool) : wake { s with ime := b } = { wake s with ime := b } := by
  cases h : s.execState <;> simp [wake, h]

theorem stopRequest_withIme (s : State) (b : Bool) : stopRequest { s with ime := b } = { stopRequest s with ime := b } := by
  cases h : s.execState <;> simp [stopRequest, h]

/-- The `step` transaction does not show IME: the same reply, and states that differ in IME at most (R17, R265). -/
theorem driverStep_withIme (s : State) (b : Bool) :
    (Driver.step { s with ime := b }).1 = (Driver.step s).1 ∧
    ∃ c, (Driver.step { s with ime := b }).2 = { (Driver.step s).2 with ime := c } := by
  rcases step_withHidden s b s.log with ⟨t, u, ws, ht, hu, hlog, heq, -⟩ | ⟨⟨op, a⟩, hs, hs'⟩
  · rw [driverStep_next ht, driverStep_next hu]
    rw [← hlog] at heq
    exact ⟨rfl, u.ime, heq⟩
  · rw [driverStep_fault hs, driverStep_fault hs']
    exact ⟨rfl, b, rfl⟩

/-! ## The statements -/

/-- Settles O8: a Running step fetches, which moves PC alone, and runs one instruction, which keeps the invariant. -/
theorem stepKeepsInvariant : Obligations.StepKeepsInvariant := by
  intro s t hs hst
  rcases next_of_step hst with ⟨-, -, rfl⟩ | ⟨-, rfl⟩
  · exact run_inv _ (fetchInstr_snd_inv hs)
  · exact hs

/-- Settles O9: a DecodeError moves PC alone, the other transactions leave F and memory or build them anew; a list of
transactions by induction. -/
theorem transactionsKeepInvariant : Obligations.TransactionsKeepInvariant := by
  have one : ∀ (x : Transaction) (s : State), s.Inv → (Driver.apply x s).2.Inv := by
    intro x s hs
    cases x with
    | construct rom r => exact inv_construct rom r
    | wake => exact inv_wake hs
    | stopRequest => exact inv_stopRequest hs
    | inspect => exact hs
    | step =>
      rcases driverStep_snd s with ⟨t, hst, hd⟩ | hd <;> rw [Driver.apply, hd]
      · exact stepKeepsInvariant s t hs hst
      · exact inv_afterDecodeError hs
  refine ⟨one, fun rom r _ => inv_construct rom r, fun xs => ?_⟩
  induction xs with
  | nil => exact fun _ hs => hs
  | cons x rest ih => exact fun s hs => ih _ (one x s hs)

/-- Settles O10: by induction on one of the two, whose first cells must agree. -/
theorem canonicalMemoryIsUnique : Obligations.CanonicalMemoryIsUnique :=
  fun _ _ hm hn h => Memory.eq_of_get_eq hm hn h

/-- Settles O11: the fields are those of `construct`, the bytes those of its ROM cells. -/
theorem constructResets : Obligations.ConstructResets := by
  intro rom r s
  refine ⟨construct rom r, rfl, rfl, rfl, rfl, rfl, rfl, rfl, fun x hx => ?_, fun x hx => ?_⟩
  · exact read_construct_rom rom r (region_eq_rom.2 hx)
  · exact read_construct_ram rom r (hx.imp region_eq_vram.2 region_eq_wram.2)

/-- Settles O12: from what `set8` and `set16` leave alone. -/
theorem pairsAreHalves : Obligations.PairsAreHalves := by
  refine ⟨fun s => ⟨rfl, rfl, rfl, rfl⟩, fun s r v => ?_, fun s w p x y hp => ?_⟩
  · have hl := leaves_set8 r v s
    have hm : SameMemory s (s.set8 r v) := sameMemory_of_eq (State.set8_mem ..) (State.set8_log ..)
    exact ⟨s.get8_set8_same r v, hl.regs, hm, hl.sameControl⟩
  · have hl := leaves_set16 p w s
    have hm : SameMemory s (s.set16 p w) := sameMemory_of_eq (State.set16_mem ..) (State.set16_log ..)
    simp only [List.mem_cons, Prod.mk.injEq, List.not_mem_nil, or_false] at hp
    rcases hp with ⟨rfl, rfl, rfl⟩ | ⟨rfl, rfl, rfl⟩ | ⟨rfl, rfl, rfl⟩ | ⟨rfl, rfl, rfl⟩ <;>
      exact ⟨rfl, rfl, hl.regs, hm, hl.sameControl⟩

/-- Settles O16: bus writes change VRAM and WRAM alone, and the other transactions leave memory. -/
theorem romNeverChanges : Obligations.RomNeverChanges := by
  refine ⟨fun x s a hx ha => ?_, fun s a ha => s.read_unmapped (region_eq_unmapped.2 ha)⟩
  cases x with
  | construct rom r => exact absurd rfl (hx rom r)
  | wake => exact State.read_congr (State.wake_mem s) a
  | stopRequest => exact State.read_congr (State.stopRequest_mem s) a
  | inspect => rfl
  | step =>
    rcases driverStep_snd s with ⟨t, hst, hd⟩ | hd <;> rw [Driver.apply, hd]
    · exact step_read_rom hst (region_eq_rom.2 ha)
    · rfl

/-- Settles O17: a step's records are those of at most two byte writes, and a DecodeError moves PC alone. -/
theorem logGrowsByAtMostTwo : Obligations.LogGrowsByAtMostTwo := by
  refine ⟨fun s t hst => ?_, fun s r hr => ?_⟩
  · obtain ⟨ws, hlog, hlen, hws⟩ := step_log hst
    refine ⟨ws, hlog, hlen, fun w hw => ?_⟩
    obtain ⟨a, ha⟩ := hws w hw
    obtain ⟨hkind, hvram, hwram⟩ := of_mem_warningsOf ha
    exact ⟨hkind.trans region_eq_rom, fun h => hvram (region_eq_vram.2 h), fun h => hwram (region_eq_wram.2 h)⟩
  · obtain ⟨op, a⟩ := r
    rw [driverStep_fault hr, State.afterDecodeError_log]

/-- Settles O18: HALT writes ExecutorState alone; the others by what their operations leave alone. -/
theorem onlyListedStateIsWritten : Obligations.OnlyListedStateIsWritten := by
  intro i s t hst
  obtain ⟨-, rfl⟩ := next_of_exec hst
  by_cases hh : i.form = .halt
  · rw [hh]
    exact ⟨fun _ _ => rfl, fun _ => rfl, fun _ => rfl, fun _ => rfl, fun h => absurd rfl h, fun _ => sameMemory_of_eq rfl rfl⟩
  · have hl := run_leaves_selected i.form s hh
    exact ⟨hl.regs, hl.sp, hl.pc, hl.ime, fun _ => hl.execState, run_sameMemory i.form s⟩

/-- Settles O19: the fetch and every instruction leave IME and the log alone or write them without looking at them, and
no reply shows IME. -/
theorem imeAndLogInfluenceNothing : Obligations.ImeAndLogInfluenceNothing := by
  refine ⟨fun s b log => ?_, fun x s b => ?_⟩
  · rcases step_withHidden s b log with ⟨t, u, ws, ht, hu, h⟩ | ⟨r, hs, hs'⟩
    · rw [ht, hu]
      exact ⟨ws, h⟩
    · rw [hs, hs']
  · cases x with
    | construct rom r => exact ⟨rfl, false, rfl⟩
    | step => exact driverStep_withIme s b
    | wake => exact ⟨rfl, b, wake_withIme s b⟩
    | stopRequest => exact ⟨rfl, b, stopRequest_withIme s b⟩
    | inspect => exact ⟨rfl, b, rfl⟩

/-- Settles O5: the fetch reads the bytes at PC as the decoder does. -/
theorem stepRunsTheDecoded : Obligations.StepRunsTheDecoded := by
  intro s i rest hr hd
  obtain ⟨rest', hd', hs⟩ := fetchInstr_decodes s
  rw [hd] at hd'
  obtain ⟨hi, rfl⟩ := Prod.mk.inj (Except.ok.inj hd')
  rw [step_running hr, hs, hi]

/-- Settles O7: memory lists nothing and F is zero. -/
theorem invariantAtReset : Obligations.InvariantAtReset := ⟨State.reset_wf, by decide⟩

/-- Settles O13: a flag update changes the one bit of F. -/
theorem flagsAreBitsOfF : Obligations.FlagsAreBitsOfF := by
  refine ⟨fun s => ⟨rfl, rfl, rfl, rfl⟩, fun s x v => ⟨?_, sameFlags_setFlag s x v, sameRegs_setFlag s x v, ?_, ?_⟩⟩
  · rw [State.getFlag_setFlag, if_pos rfl]
  · exact sameMemory_of_eq rfl rfl
  · exact ⟨rfl, rfl, rfl, rfl⟩

end Sys2Proof.Machine
end

section
/-! PROOFS: the family of 20_memory.md. First the stack; then the fetch's and the instruction's accesses as parts of the
bus trace, and what a step does under another memory that answers its reads alike; then the statements themselves. -/

namespace Sys2Proof.Machine

/-! ## The stack -/

theorem sub_two_add_one (a : Word) : a - 2 + 1 = a - 1 := by bv_omega

/-- What `pop16` gives back after `push16`: the bytes at the two stack addresses (R47, R48). -/
theorem State.pop16_push16_fst (s : State) (w : Word) :
    (s.push16 w).pop16.1 = word ((s.push16 w).read (s.sp - 1)) ((s.push16 w).read (s.sp - 2)) := by
  rw [State.pop16_fst, State.push16_sp, sub_two_add_one]

/-! ## The fetch as bus reads -/

theorem fetchInstr_snd_mem (s : State) : (fetchInstr s).2.mem = s.mem := by
  obtain ⟨pc, h⟩ := fetchInstr_state s
  rw [h]

/-- The CB byte is not fetched as an instruction (R77). -/
theorem fetchInstr_not_cb (s : State) (o : Byte) : (fetchInstr s).1.form ≠ .cbPrefix o := by
  intro h
  have hw := (fetchInstr_encode s).1
  rw [Instr.wellFormed, h] at hw
  cases hw

/-- The fetch reads as many bytes from PC on as the opcode byte's entry asks for (R49, R76). -/
theorem State.fetchReads_eq_take (s : State) :
    s.fetchReads = [s.pc, s.pc + 1, s.pc + 2].take ((baseEntry (s.read s.pc)).mode.byteCount + 1) := by
  unfold State.fetchReads
  cases (baseEntry (s.read s.pc)).mode <;> rfl

theorem State.pc_mem_fetchReads (s : State) : s.pc ∈ s.fetchReads := by
  rw [State.fetchReads_eq_take]
  exact List.mem_cons_self

theorem State.length_fetchReads (s : State) : s.fetchReads.length = (baseEntry (s.read s.pc)).mode.byteCount + 1 := by
  unfold State.fetchReads
  cases (baseEntry (s.read s.pc)).mode <;> rfl

theorem State.length_fetchReads_le (s : State) : s.fetchReads.length ≤ 3 := by
  rw [State.fetchReads_eq_take]
  exact List.length_take_le' _ _

/-- The decoder takes as many of the bytes at PC as the opcode byte's entry asks for (R70, R75). -/
theorem length_of_decode_bytesAtPC {s : State} {i : Instr} {rest : List Byte} (h : decode s.bytesAtPC = .ok (i, rest)) :
    3 - rest.length = (baseEntry (s.read s.pc)).mode.byteCount + 1 := by
  cases hm : (baseEntry (s.read s.pc)).mode
  all_goals
    simp only [State.bytesAtPC, decode, hm, decodeOperands] at h
    cases h
    rfl

/-- A memory that answers the read at PC alike gives the same fetched byte. -/
theorem fetch8_withMem {s : State} {m : Memory} (h : (State.withMem m s).read s.pc = s.read s.pc) :
    (State.withMem m s).fetch8 = (s.fetch8.1, State.withMem m s.fetch8.2) :=
  Prod.ext h rfl

/-- The operand bytes look at memory through their reads alone. -/
theorem fetchOperands_withMem (mode : OperandMode) {s : State} {m : Memory}
    (h : ∀ a ∈ [s.pc, s.pc + 1].take mode.byteCount, (State.withMem m s).read a = s.read a) :
    fetchOperands mode (State.withMem m s) = ((fetchOperands mode s).1, State.withMem m (fetchOperands mode s).2) := by
  cases mode with
  | none i => rfl
  | d8 | e8 | a8 | cb =>
    have h1 := fetch8_withMem (h s.pc (by simp [OperandMode.byteCount]))
    simp only [fetchOperands, h1]
  | d16 | a16 =>
    have h1 := fetch8_withMem (h s.pc (by simp [OperandMode.byteCount]))
    have h2 := fetch8_withMem (s := s.fetch8.2) (m := m) (h (s.pc + 1) (by simp [OperandMode.byteCount]))
    simp only [fetchOperands, h1, h2]

/-- The fetch looks at memory through its reads alone (R76). -/
theorem fetchInstr_withMem {s : State} {m : Memory} (h : ∀ a ∈ s.fetchReads, (State.withMem m s).read a = s.read a) :
    fetchInstr (State.withMem m s) = ((fetchInstr s).1, State.withMem m (fetchInstr s).2) := by
  rw [State.fetchReads_eq_take, List.take_succ_cons, List.forall_mem_cons] at h
  obtain ⟨hop, hargs⟩ := h
  have hpc : s.pc + 2 = s.pc + 1 + 1 := by bv_omega
  rw [hpc] at hargs
  simp only [fetchInstr, fetch8_withMem hop]
  exact fetchOperands_withMem _ (s := s.fetch8.2) hargs

/-- A value with no entry is an instruction of one byte (R80, log 7). -/
theorem mode_of_mem_noEntryOpcodes {op : Byte} (h : op ∈ noEntryOpcodes) :
    ∃ i, (baseEntry op).mode = .none i ∧ i.form = .noEntry op := by
  simp only [noEntryOpcodes, List.mem_cons, List.not_mem_nil, or_false] at h
  rcases h with rfl | rfl | rfl | rfl | rfl | rfl | rfl | rfl | rfl | rfl | rfl | rfl <;> exact ⟨_, rfl, rfl⟩

/-! ## The bus trace -/

theorem busTrace_running {s : State} (h : s.execState = .running) : busTrace s = s.busOf := by
  simp only [busTrace, h]

theorem busTrace_not_running {s : State} (h : s.execState ≠ .running) : busTrace s = [] := by
  cases hs : s.execState <;> simp_all [busTrace]

/-- No instruction reads more than two bytes as data. -/
theorem length_dataReads (f : Form) (s : State) : (s.dataReads f).length ≤ 2 := by
  cases f with
  | ret_cc cc =>
    simp only [State.dataReads]
    split <;> simp
  | _ => simp [State.dataReads]

/-- Writes look at memory and at no other part of the state. -/
theorem mem_writes_congr {s t : State} (h : t.mem = s.mem) (ws : List (Word × Byte)) : (t.writes ws).mem = (s.writes ws).mem := by
  induction ws generalizing s t with
  | nil => exact h
  | cons x rest ih => exact ih (State.mem_write_congr h x.1 x.2)

/-- What a completed step does to memory and the log is what its trace does (R49). -/
theorem step_eq_replay {s t : State} (h : step s = .next t) :
    t.mem = (s.replay (busTrace s)).mem ∧ t.log = (s.replay (busTrace s)).log := by
  rcases next_of_step h with ⟨hr, -, rfl⟩ | ⟨hr, rfl⟩
  · obtain ⟨hmem, hlog⟩ := run_bus_noCB _ (fetchInstr s).2 (fetchInstr_not_cb s)
    rw [busTrace_running hr, replay_busOf]
    refine ⟨hmem.trans (mem_writes_congr (fetchInstr_snd_mem s) _), hlog.trans ?_⟩
    rw [log_writes, log_writes, fetchInstr_snd_log]
  · rw [busTrace_not_running hr]
    exact ⟨rfl, rfl⟩

/-- The addresses a Running step reads, in order: the bytes of the instruction, then its data (R49). -/
def State.busReads (s : State) : List Word := s.fetchReads ++ (fetchInstr s).2.dataReads (fetchInstr s).1.form

/-- The byte writes of a Running step, in order (R49). -/
def State.busWrites (s : State) : List (Word × Byte) := (fetchInstr s).2.dataWrites (fetchInstr s).1.form

theorem State.busOf_eq (s : State) :
    s.busOf = (s.busReads.map fun a => .read a (s.read a)) ++ s.busWrites.map fun w => .write w.1 w.2 := rfl

theorem State.length_busReads_le (s : State) : s.busReads.length ≤ 5 := by
  rw [State.busReads, List.length_append]
  exact Nat.add_le_add s.length_fetchReads_le (length_dataReads _ _)

theorem State.read_mem_busOf {s : State} {a : Word} (h : a ∈ s.busReads) : .read a (s.read a) ∈ s.busOf :=
  List.mem_append_left _ (List.mem_map_of_mem h)

/-- The trace begins with the reads of the fetch. -/
theorem State.take_busOf (s : State) :
    s.busOf.take s.fetchReads.length = s.fetchReads.map fun a => .read a (s.read a) := by
  rw [State.busOf_eq, State.busReads, List.map_append, List.append_assoc]
  exact List.take_left' (List.length_map _)

section
variable {s : State} {m : Memory} (h : ∀ a ∈ s.busReads, (State.withMem m s).read a = s.read a)
include h

/-- The fetch, where another memory answers the step's reads alike. -/
theorem fetchInstr_of_busReads : fetchInstr (State.withMem m s) = ((fetchInstr s).1, State.withMem m (fetchInstr s).2) :=
  fetchInstr_withMem fun a ha => h a (List.mem_append_left _ ha)

/-- The instruction and its accesses, where another memory answers the step's reads alike. -/
theorem run_of_busReads :
    (fetchInstr s).1.form.run (State.withMem m (fetchInstr s).2) =
      State.withMem ((fetchInstr s).1.form.run (State.withMem m (fetchInstr s).2)).mem ((fetchInstr s).1.form.run (fetchInstr s).2) ∧
    (State.withMem m (fetchInstr s).2).dataReads (fetchInstr s).1.form = (fetchInstr s).2.dataReads (fetchInstr s).1.form ∧
    (State.withMem m (fetchInstr s).2).dataWrites (fetchInstr s).1.form = s.busWrites := by
  refine run_reads_only _ _ m (fetchInstr_not_cb s) fun a ha => ?_
  obtain ⟨pc, hpc⟩ := fetchInstr_state s
  have hd := h a (List.mem_append_right _ ha)
  rw [hpc]
  exact hd

/-- The trace looks at memory through its reads alone (R42, R49). -/
theorem busOf_withMem : (State.withMem m s).busOf = s.busOf := by
  obtain ⟨-, hdata, hwrites⟩ := run_of_busReads h
  have hfetch : (State.withMem m s).fetchReads = s.fetchReads := by
    rw [State.fetchReads, h s.pc (List.mem_append_left _ s.pc_mem_fetchReads)]
    rfl
  have hr : (State.withMem m s).busReads = s.busReads := by
    rw [State.busReads, fetchInstr_of_busReads h, hfetch, hdata]
    rfl
  have hw : (State.withMem m s).busWrites = s.busWrites := by
    rw [State.busWrites, fetchInstr_of_busReads h, hwrites]
  rw [State.busOf_eq, hr, hw, State.busOf_eq]
  exact congrArg (· ++ _) (List.map_congr_left fun a ha => congrArg (BusAccess.read a) (h a ha))

/-- So does the step: the same next state but for memory, or the same DecodeError (R42, R49). -/
theorem step_withMem (hr : s.execState = .running) :
    (∃ t u, step s = .next t ∧ step (State.withMem m s) = .next u ∧ u = { t with mem := u.mem }) ∨
    ∃ x, step s = .fault x ∧ step (State.withMem m s) = .fault x := by
  rw [step_running hr, step_running (s := State.withMem m s) hr, fetchInstr_of_busReads h]
  rcases hasEntry_or_noEntry (fetchInstr s).1.form with he | ⟨op, hop⟩
  · exact .inl ⟨_, _, exec_next _ _ he, exec_next _ _ he, (run_of_busReads h).1⟩
  · exact .inr ⟨_, exec_noEntry hop _, exec_noEntry hop _⟩

end

/-! ## The statements -/

/-- Settles O14: by what one bus write does in the region of its address. -/
theorem busWrite : Obligations.BusWrite := by
  intro s a v
  obtain ⟨hsame, hother, hlog⟩ := s.write_storesByte a v
  have hl := leaves_write a v s
  refine ⟨fun ha => ?_, fun ha => ?_, fun ha => ?_, hother, hl.regs, hl.sameControl⟩
  · have hr : region a = .vram ∨ region a = .wram := ha.imp region_eq_vram.2 region_eq_wram.2
    rw [hsame, hlog, if_pos hr]
    rcases hr with hr | hr <;> simp [warningsOf, hr]
  · simp [hsame, hlog, warningsOf, region_eq_rom.2 ha]
  · simp [hsame, hlog, warningsOf, region_eq_unmapped.2 ha]

/-- Settles O15: `push16` is two bus writes below SP, and `pop16` reads the same two addresses. -/
theorem stackRoundTrip : Obligations.StackRoundTrip := by
  refine ⟨fun s w => ?_, fun s => ?_, fun s w => ⟨?_, fun hhi hlo => ?_⟩⟩
  · exact ⟨s.push16_sp w, s.push16_pc w, ⟨s.push16_execState w, s.push16_ime w⟩, (leaves_push w s).regs, s.push16_storesTwo w⟩
  · exact ⟨s.pop16_fst, s.pop16_snd_sp, rfl, ⟨rfl, rfl⟩, (leaves_pop s).regs, sameMemory_of_eq rfl rfl⟩
  · rw [State.pop16_snd_sp, State.push16_sp, BitVec.sub_add_cancel]
  · obtain ⟨hhigh, hlow, -, -⟩ := s.push16_storesTwo w
    rw [State.pop16_push16_fst, hhigh, hlow, if_pos hhi, if_pos hlo, word_hi_lo]

/-- Settles O25: the instruction's data accesses are what running it does to memory and sees of it, and the fetch's reads
are the bytes that the decoder takes. -/
theorem busTraceIsTheStep : Obligations.BusTraceIsTheStep := by
  refine ⟨fun s t hst => step_eq_replay hst, fun s m h => ?_, fun s i rest hr hd => ?_, fun s hr hop => ?_,
    fun s hr => busTrace_not_running hr, fun s => ?_⟩
  · by_cases hr : s.execState = .running
    · rw [busTrace_running hr] at h ⊢
      have hreads : ∀ a ∈ s.busReads, (State.withMem m s).read a = s.read a := fun a ha => h a _ (State.read_mem_busOf ha)
      refine ⟨(busTrace_running (s := State.withMem m s) hr).trans (busOf_withMem hreads), ?_⟩
      rcases step_withMem hreads hr with ⟨t, u, ht, hu, heq⟩ | ⟨x, hs, hs'⟩
      · rw [ht, hu]
        exact heq
      · rw [hs, hs']
    · rw [busTrace_not_running hr, busTrace_not_running (s := State.withMem m s) hr, step_not_running hr,
        step_not_running (s := State.withMem m s) hr]
      exact ⟨rfl, rfl⟩
  · rw [busTrace_running hr, length_of_decode_bytesAtPC hd, ← State.fetchReads_eq_take, ← State.length_fetchReads, s.take_busOf]
  · obtain ⟨i, hm, hi⟩ := mode_of_mem_noEntryOpcodes hop
    rw [busTrace_running hr, State.busOf_eq, State.busReads, State.busWrites, State.fetchReads_eq_take, fetchInstr_one s hm,
      hm, hi]
    rfl
  · by_cases hr : s.execState = .running
    · exact ⟨s.busReads, s.busWrites, s.length_busReads_le, length_dataWrites _ _, (busTrace_running hr).trans s.busOf_eq⟩
    · exact ⟨[], [], Nat.zero_le _, Nat.zero_le _, busTrace_not_running hr⟩

end Sys2Proof.Machine
end

section
/-! PROOFS: the family of 30_encoding.md. First the decoder and the encoder, then which steps raise DecodeError, then the
flag effects, kind of instruction by kind of instruction; then the statements themselves. -/

namespace Sys2Proof

/-! ## The encoder against the decoder -/

/-- The decoder reads every well-formed instruction back from its encoding: its table entry stands at its own opcode, and a
word operand is joined as it was split (R75, R78, R79). -/
theorem decode_encode {i : Instr} (h : i.wellFormed = true) (rest : List Byte) : decode (encode i ++ rest) = .ok (i, rest) := by
  cases i with
  | cbPrefix op2 => cases h
  | ld_BC_d16 w | ld_DE_d16 w | ld_HL_d16 w | ld_SP_d16 w => exact (Laws.RoundTrip.word_operand _ w rest).1
  | ld_atA16_SP w | ld_atA16_A w | ld_A_atA16 w | jp_a16 w | jp_NZ_a16 w | jp_Z_a16 w | jp_NC_a16 w | jp_C_a16 w
  | call_a16 w | call_NZ_a16 w | call_Z_a16 w | call_NC_a16 w | call_C_a16 w =>
    exact (Laws.RoundTrip.word_operand _ w rest).2
  | _ => rfl

/-- What an entry makes of the bytes after its opcode byte is encoded by that byte and those bytes (R75, R77). -/
theorem encode_of_decodeOperands {m : OperandMode} {op : Byte} (hm : m.Encodes op) {bytes rest : List Byte} {i : Instr}
    (h : decodeOperands m bytes = .ok (i, rest)) : i.wellFormed = true ∧ op :: bytes = encode i ++ rest := by
  cases m with
  | none j =>
    cases h
    obtain ⟨henc, hwf⟩ := hm
    exact ⟨hwf, by rw [henc]; rfl⟩
  | d8 f | e8 f | a8 f =>
    obtain _ | ⟨n, bytes⟩ := bytes <;> cases h
    obtain ⟨henc, hwf⟩ := hm n
    exact ⟨hwf, by rw [henc]; rfl⟩
  | d16 f | a16 f =>
    obtain _ | ⟨l, _ | ⟨h', bytes⟩⟩ := bytes <;> cases h
    obtain ⟨henc, hwf⟩ := hm (word h' l)
    exact ⟨hwf, by rw [henc, lo_word, hi_word]; rfl⟩
  | cb =>
    obtain _ | ⟨op2, bytes⟩ := bytes <;> cases h
    obtain ⟨henc, hwf⟩ := cbInstr_encodes op2
    exact ⟨hwf, by rw [henc, show op = 0xCB from hm]; rfl⟩

/-! ## The length of an instruction -/

theorem OperandMode.byteCount_le_two (m : OperandMode) : m.byteCount ≤ 2 := by
  cases m <;> simp [OperandMode.byteCount]

/-- With all its operand bytes there, an entry makes an instruction of them and leaves the bytes after (R70). -/
theorem decodeOperands_of_byteCount_le (m : OperandMode) {bytes : List Byte} (h : m.byteCount ≤ bytes.length) :
    ∃ i, decodeOperands m bytes = .ok (i, bytes.drop m.byteCount) := by
  cases m with
  | none i => exact ⟨i, rfl⟩
  | d8 f | e8 f | a8 f | cb =>
    obtain _ | ⟨n, bytes⟩ := bytes
    · cases h
    · exact ⟨_, rfl⟩
  | d16 f | a16 f =>
    obtain _ | ⟨l, _ | ⟨h', bytes⟩⟩ := bytes
    · cases h
    · simp [OperandMode.byteCount] at h
    · exact ⟨_, rfl⟩

/-- With fewer bytes the instruction is cut off. -/
theorem decodeOperands_of_lt_byteCount (m : OperandMode) {bytes : List Byte} (h : bytes.length < m.byteCount) :
    decodeOperands m bytes = .error .truncated := by
  cases m with
  | none i => cases h
  | d8 f | e8 f | a8 f | cb =>
    obtain _ | ⟨n, bytes⟩ := bytes
    · rfl
    · simp [OperandMode.byteCount] at h
  | d16 f | a16 f =>
    obtain _ | ⟨l, _ | ⟨h', bytes⟩⟩ := bytes
    · rfl
    · rfl
    · simp [OperandMode.byteCount] at h

/-! ## The table entry of an instruction -/

/-- The flag effects of the ALU operations (R141 to R164). -/
def AluOp.flagEffects : AluOp → Option FlagEffects
  | .add | .adc => fxK0KK
  | .sub | .sbc | .cp => fxK1KK
  | .and => fxK010
  | .xor | .or => fxK000

/-- The flag effects of the CB rotates and shifts: SWAP clears C, the others send a bit to it (R194 to R209). -/
def RotOp.flagEffects : RotOp → Option FlagEffects
  | .swap => fxK000
  | .rlc | .rrc | .rl | .rr | .sla | .sra | .srl => fxK00K

/-- The flag effects that the table gives each kind of instruction; none to a value with no entry (R81, R85). -/
def Form.flagEffects : Form → Option FlagEffects
  | .alu_r op _ | .alu_atHL op | .alu_d8 op _ => op.flagEffects
  | .inc_r _ | .inc_atHL => fxK0KU
  | .dec_r _ | .dec_atHL => fxK1KU
  | .daa => fxKU0K
  | .cpl => fxU11U
  | .scf => fxU001
  | .ccf => fxU00K
  | .add_HL_rr _ => fxU0KK
  | .add_SP_e8 _ | .ld_HL_SPe8 _ => fx00KK
  | .rlca | .rla | .rrca | .rra => fx000K
  | .rot_r op _ | .rot_atHL op => op.flagEffects
  | .bit_b_r _ _ | .bit_b_atHL _ => fxK01U
  | .pop .AF => fxKKKK
  | .cbPrefix opcode2 => (cbEntry opcode2).flags
  | .noEntry _ => none
  | _ => fxUUUU

/-- Every row of the table has the flag effects of its kind. -/
theorem Instr.entry_flags (i : Instr) : i.entry.flags = i.form.flagEffects := by
  cases i <;> rfl

/-- The CB byte has the flag effects of the instruction it selects (R77). -/
theorem flagEffects_selected (f : Form) : (Machine.selected f).flagEffects = f.flagEffects := by
  cases f with
  | cbPrefix op2 =>
    rw [Machine.selected, ← Instr.entry_flags, Instr.entry, (cbInstr_encodes op2).1]
    rfl
  | _ => rfl

end Sys2Proof

namespace Sys2Proof.Machine

theorem encodedAs_encode {i : Instr} (h : i.wellFormed = true) : EncodedAs i (encode i) := decode_encode h

/-! ## DecodeError -/

theorem mem_noEntryOpcodes_of_form {i : Instr} {op : Byte} (h : i.form = .noEntry op) : op ∈ noEntryOpcodes := by
  cases i <;> cases h <;> decide

/-- A value with no entry has its one byte as encoding (R80, log 7). -/
theorem encodedAs_noEntry {i : Instr} {op : Byte} (h : i.form = .noEntry op) : EncodedAs i [op] := by
  have hwf : i.wellFormed = true := by rw [Instr.wellFormed, h]; rfl
  have henc : encode i = [op] := by rw [encode, h]; rfl
  exact henc ▸ encodedAs_encode hwf

/-- A Running step that meets a value with no entry raises DecodeError with that byte and the PC it began with (R261). -/
theorem step_of_mem_noEntryOpcodes {s : State} (hr : s.execState = .running) (hop : s.read s.pc ∈ noEntryOpcodes) :
    step s = .fault (.decodeError (s.read s.pc) s.pc) := by
  obtain ⟨i, hm, hi⟩ := mode_of_mem_noEntryOpcodes hop
  rw [step_running hr, fetchInstr_one s hm, exec_noEntry hi, BitVec.add_sub_cancel]

/-- A step that faults met a value with no entry: what is fetched begins with the byte at PC (R263). -/
theorem mem_noEntryOpcodes_of_step_fault {s : State} {r : Fault} (h : step s = .fault r) :
    s.execState = .running ∧ s.read s.pc ∈ noEntryOpcodes := by
  obtain ⟨hr, op, hop, -⟩ := fault_of_step h
  obtain ⟨-, rest, henc⟩ := fetchInstr_encode s
  rw [encode, hop] at henc
  obtain ⟨rfl, -⟩ := List.cons.inj henc
  exact ⟨hr, mem_noEntryOpcodes_of_form hop⟩

/-! ## Flag effects -/

/-- What the table's effect on a flag says of an update of it (R81). -/
def EffectMet : FlagEffect → Option Bool → Prop
  | .set, v => v = some true
  | .clear, v => v = some false
  | .unaffected, v => v = none
  | .computed, _ => True

theorem effectHolds_of_met {x : FlagEffect} {v : Option Bool} (h : EffectMet x v) (b : Bool) :
    EffectHolds x b (v.getD b) := by
  cases x with
  | computed => trivial
  | set | clear | unaffected => rw [show v = _ from h]; rfl

/-- An update does to the four flags what the table says (R81). -/
def FlagUpdate.Meets (u : FlagUpdate) : Option FlagEffects → Prop
  | none => True
  | some fx => EffectMet fx.z u.z ∧ EffectMet fx.n u.n ∧ EffectMet fx.h u.h ∧ EffectMet fx.c u.c

/-- What lies between two states does to the flags what the table says, and to `F[3:0]` nothing (R81, R12). -/
def FollowsTable (s t : State) : Option FlagEffects → Prop
  | none => True
  | some fx =>
    EffectHolds fx.z (s.getFlag .Z) (t.getFlag .Z) ∧ EffectHolds fx.n (s.getFlag .N) (t.getFlag .N) ∧
    EffectHolds fx.h (s.getFlag .H) (t.getFlag .H) ∧ EffectHolds fx.c (s.getFlag .C) (t.getFlag .C) ∧
    (s.f &&& 0x0F = 0 → t.f &&& 0x0F = 0)

/-- A flag update that meets the table, after changes that leave F alone. -/
theorem followsTable_setFlags {s t : State} {u : FlagUpdate} {fx : Option FlagEffects} (hf : t.f = s.f) (hu : u.Meets fx) :
    FollowsTable s (t.setFlags u) fx := by
  cases fx with
  | none => trivial
  | some fx =>
    have hget (x : Flag) : (t.setFlags u).getFlag x = (u.get x).getD (s.getFlag x) := by
      rw [State.getFlag_setFlags, State.getFlag_congr hf]
    rw [FollowsTable, State.lowNibble_setFlags, hf, hget, hget, hget, hget]
    obtain ⟨hz, hn, hh, hc⟩ := hu
    exact ⟨effectHolds_of_met hz _, effectHolds_of_met hn _, effectHolds_of_met hh _, effectHolds_of_met hc _, id⟩

/-- Changes that leave F alone leave all flags unaffected. -/
theorem followsTable_unaffected {s t : State} (hf : t.f = s.f) : FollowsTable s t fxUUUU :=
  ⟨State.getFlag_congr hf _, State.getFlag_congr hf _, State.getFlag_congr hf _, State.getFlag_congr hf _, hf ▸ id⟩

theorem add8_meets (a b : Byte) (c : Bool) : (add8 a b c).flags.Meets fxK0KK := ⟨trivial, rfl, trivial, trivial⟩

theorem sub8_meets (a b : Byte) (c : Bool) : (sub8 a b c).flags.Meets fxK1KK := ⟨trivial, rfl, trivial, trivial⟩

theorem alu8_meets (op : AluOp) (a v : Byte) (c : Bool) : (alu8 op a v c).flags.Meets op.flagEffects := by
  cases op with
  | add | adc => exact add8_meets _ _ _
  | sub | sbc | cp => exact sub8_meets _ _ _
  | and | xor | or => exact ⟨trivial, rfl, rfl, rfl⟩

theorem inc8_meets (v : Byte) : (inc8 v).flags.Meets fxK0KU := ⟨trivial, rfl, trivial, rfl⟩

theorem dec8_meets (v : Byte) : (dec8 v).flags.Meets fxK1KU := ⟨trivial, rfl, trivial, rfl⟩

theorem daa8_meets (a : Byte) (n h c : Bool) : (daa8 a n h c).flags.Meets fxKU0K := ⟨trivial, rfl, rfl, trivial⟩

theorem add16_meets (a b : Word) : (add16 a b).flags.Meets fxU0KK := ⟨rfl, rfl, trivial, trivial⟩

theorem addSPe8_meets (sp : Word) (e : Byte) : (addSPe8 sp e).flags.Meets fx00KK := ⟨rfl, rfl, trivial, trivial⟩

theorem rotA8_meets (op : RotOp) (v : Byte) (c : Bool) : (rotA8 op v c).flags.Meets fx000K := ⟨rfl, rfl, rfl, trivial⟩

theorem rot8_meets (op : RotOp) (v : Byte) (c : Bool) : (rot8 op v c).flags.Meets op.flagEffects := by
  cases op with
  | swap => exact ⟨trivial, rfl, rfl, rfl⟩
  | _ => exact ⟨trivial, rfl, rfl, trivial⟩

theorem bitFlags_meets (b : Fin 8) (v : Byte) : (bitFlags b v).Meets fxK01U := ⟨trivial, rfl, rfl, rfl⟩

theorem followsTable_aluA (op : AluOp) (v : Byte) (s : State) : FollowsTable s (aluA op v s) op.flagEffects := by
  have hu := alu8_meets op (s.get8 .A) v (s.getFlag .C)
  unfold aluA
  cases op <;> exact followsTable_setFlags rfl hu

/-- POP AF computes all four flags and masks the low nibble away (R136; D25). -/
theorem followsTable_popAF (s : State) : FollowsTable s (popPair .AF s) fxKKKK := by
  rw [popPair_AF_eq]
  exact ⟨trivial, trivial, trivial, trivial, fun _ => lowNibble_mask _⟩

/-- An instruction that the lists do not let write F leaves it as it was (R24). -/
theorem run_f {f : Form} (hf : ∀ o, f ≠ .cbPrefix o) (hF : .F ∉ writesRegs f) (s : State) : (f.run s).f = s.f := by
  by_cases hh : f = .halt
  · rw [hh]; rfl
  · exact (run_leaves f s hf hh).regs .F hF

/-- Every kind of instruction but the CB byte changes the flags as its table entry says (R81). -/
theorem run_followsTable_noCB (f : Form) (hf : ∀ o, f ≠ .cbPrefix o) (s : State) :
    FollowsTable s (f.run s) f.flagEffects := by
  cases f with
  | cbPrefix o => exact absurd rfl (hf o)
  | noEntry => trivial
  | alu_r | alu_atHL | alu_d8 => exact followsTable_aluA _ _ s
  | inc_r => exact followsTable_setFlags (State.setR_f ..) (inc8_meets _)
  | inc_atHL => exact followsTable_setFlags (State.writeHL_f ..) (inc8_meets _)
  | dec_r => exact followsTable_setFlags (State.setR_f ..) (dec8_meets _)
  | dec_atHL => exact followsTable_setFlags (State.writeHL_f ..) (dec8_meets _)
  | daa => exact followsTable_setFlags rfl (daa8_meets _ _ _ _)
  | cpl | scf =>
    simp only [Form.run, cpl, scf]
    exact followsTable_setFlags rfl ⟨rfl, rfl, rfl, rfl⟩
  | ccf =>
    simp only [Form.run, ccf]
    exact followsTable_setFlags rfl ⟨rfl, rfl, rfl, trivial⟩
  | add_HL_rr => exact followsTable_setFlags rfl (add16_meets _ _)
  | add_SP_e8 | ld_HL_SPe8 => exact followsTable_setFlags rfl (addSPe8_meets _ _)
  | rlca | rla | rrca | rra => exact followsTable_setFlags rfl (rotA8_meets _ _ _)
  | rot_r => exact followsTable_setFlags (State.setR_f ..) (rot8_meets _ _ _)
  | rot_atHL => exact followsTable_setFlags (State.writeHL_f ..) (rot8_meets _ _ _)
  | bit_b_r | bit_b_atHL => exact followsTable_setFlags rfl (bitFlags_meets _ _)
  | pop rr =>
    cases rr with
    | AF => exact followsTable_popAF s
    | _ => exact followsTable_unaffected rfl
  | ld_r_r d | ld_r_d8 d | ld_r_atHL d | res_b_r _ d | set_b_r _ d => exact followsTable_unaffected (State.setR_f _ d _)
  | ld_A_atA16 | ldh_A_atA8 | ldh_A_atC => exact followsTable_unaffected rfl
  | ld_A_at x | ld_rr_d16 x | inc_rr x | dec_rr x => cases x <;> exact followsTable_unaffected rfl
  | ld_at_A x => cases x <;> exact followsTable_unaffected (State.write_f ..)
  | _ => exact followsTable_unaffected (run_f hf List.not_mem_nil s)

/-- So does the CB byte, as the instruction it selects (R77). -/
theorem run_followsTable (f : Form) (s : State) : FollowsTable s (f.run s) f.flagEffects := by
  rw [run_selected, ← flagEffects_selected]
  exact run_followsTable_noCB _ (selected_not_cb f) s

/-! ## The statements -/

/-- Settles O1: constructor by constructor, the entry stands at the instruction's opcode. -/
theorem decodeInvertsEncode : Obligations.DecodeInvertsEncode := fun _ rest h => decode_encode h rest

/-- Settles O2: every entry of the two tables makes an instruction whose encoding begins with the entry's own byte. -/
theorem encodeInvertsDecode : Obligations.EncodeInvertsDecode := by
  intro bytes rest i h
  cases bytes with
  | nil => cases h
  | cons op bytes => exact encode_of_decodeOperands (baseEntry_encodes op) h

/-- Settles O4: the number is the operand byte count of the first byte's entry. -/
theorem firstByteFixesLength : Obligations.FirstByteFixesLength := by
  intro op
  refine ⟨(baseEntry op).mode.byteCount, OperandMode.byteCount_le_two _, fun hop => by rw [hop]; rfl, ?_, ?_⟩
  · exact fun rest h => decodeOperands_of_byteCount_le _ h
  · exact fun rest h => decodeOperands_of_lt_byteCount _ h

/-- Settles O6: decoding by the fields of `opcode2` and looking `opcode2` up in the CB table run the same instruction. -/
theorem cbByteSelectsSecondTable : Obligations.CbByteSelectsSecondTable := by
  refine ⟨fun op2 s => ⟨runCB op2 s, rfl, ?_⟩, fun op2 => ?_, fun s hr hop => ?_, rfl⟩
  · rw [runCB_eq]
    exact exec_next _ s (cbInstr_hasEntry op2)
  · obtain ⟨henc, hwf⟩ := cbInstr_encodes op2
    exact henc ▸ encodedAs_encode hwf
  · rw [step_running hr, fetchInstr_cb s hop]

/-- Settles O20: the fetch of a value with no entry faults with its byte and PC, and nothing else faults. -/
theorem stepFaultsExactlyOnNoEntry : Obligations.StepFaultsExactlyOnNoEntry := by
  refine ⟨fun s op a => ⟨fun h => ?_, ?_⟩, fun s hs => ?_⟩
  · obtain ⟨hr, hop⟩ := mem_noEntryOpcodes_of_step_fault h
    obtain ⟨rfl, rfl⟩ := Fault.decodeError.inj (Host.Outcome.fault.inj ((step_of_mem_noEntryOpcodes hr hop).symm.trans h))
    exact ⟨hr, hop, rfl, rfl⟩
  · rintro ⟨hr, hop, rfl, rfl⟩
    exact step_of_mem_noEntryOpcodes hr hop
  · cases h : step s with
    | next t => exact ⟨t, rfl⟩
    | fault r => exact absurd (mem_noEntryOpcodes_of_step_fault h) hs
    | refused r => exact absurd h (step_not_refused s r)

/-- Settles O21: the twelve constructors are one byte each, and the driver moves PC past it. -/
theorem noEntryRaisesDecodeError : Obligations.NoEntryRaisesDecodeError := by
  refine ⟨fun i op s h => ⟨encodedAs_noEntry h, mem_noEntryOpcodes_of_form h, exec_noEntry h s⟩, fun op hop => ?_,
    fun s hr hop => driverStep_fault (step_of_mem_noEntryOpcodes hr hop)⟩
  obtain ⟨i, -, hi⟩ := mode_of_mem_noEntryOpcodes hop
  exact ⟨i, hi⟩

/-- Settles O26: each row of the table has the effects of its kind, and each kind's operations set the flags so. -/
theorem flagEffectsFollowTheTable : Obligations.FlagEffectsFollowTheTable := by
  intro i s t fx hfx hst
  obtain ⟨-, rfl⟩ := next_of_exec hst
  have h := run_followsTable i.form s
  rw [← Instr.entry_flags, hfx] at h
  exact h

/-- Settles O3: the words are the encodings of the thirteen instructions. -/
theorem specWordsDecode : Obligations.SpecWordsDecode :=
  ⟨encodedAs_encode rfl, encodedAs_encode rfl, encodedAs_encode rfl, encodedAs_encode rfl, encodedAs_encode rfl,
    encodedAs_encode rfl, encodedAs_encode rfl, encodedAs_encode rfl, encodedAs_encode rfl, encodedAs_encode rfl,
    encodedAs_encode rfl, encodedAs_encode rfl, encodedAs_encode rfl⟩

end Sys2Proof.Machine
end

section
/-! PROOFS: the family of 40_load8.md. First what an instruction of a kind is encoded as and runs to, and what a load and a
store leave alone; then loads and stores at a pair's address and in the high page; then the statements themselves. -/

namespace Sys2Proof

/-- The kinds of 40_load8.md (R101 to R119). -/
def Form.isLoad8 : Form → Bool
  | .ld_r_r _ _ | .ld_r_d8 _ _ | .ld_r_atHL _ | .ld_atHL_r _ | .ld_atHL_d8 _ | .ld_A_at _ | .ld_at_A _
  | .ld_A_atA16 _ | .ld_atA16_A _ | .ldh_A_atA8 _ | .ldh_atA8_A _ | .ldh_A_atC | .ldh_atC_A => true
  | _ => false

end Sys2Proof

namespace Sys2Proof.Machine

/-! ## Encodings and next states by kind -/

/-- An opcode byte, its fields added up (R71). -/
theorem opcode_eq {x y z k : Nat} (h : 64 * x + 8 * y + z = k) : opcode x y z = BitVec.ofNat 8 k :=
  congrArg (BitVec.ofNat 8) h

/-- An instruction is encoded as its kind says, and completes in the state that its kind runs to (R70, R76). -/
theorem encodedAs_and_next {i : Instr} {f : Form} {bytes : List Byte} {P : State → Prop} {s : State} (hi : i.form = f)
    (hwf : f.wellFormed = true) (he : f.hasEntry = true) (hb : f.encode = bytes) (hP : P (f.run s)) :
    EncodedAs i bytes ∧ ∃ t, exec i s = .next t ∧ P t := by
  subst hi hb
  exact ⟨encodedAs_encode hwf, _, exec_next i s he, hP⟩

/-! ## The frames of loads and stores -/

/-- Their instructions write neither SP, PC, IME nor ExecutorState. -/
theorem leaves_load8 {f : Form} (h : f.isLoad8 = true) (s : State) :
    Leaves (writesRegs f) false false false s (f.run s) := by
  have hl : Keeps f s := run_leaves f s (by rintro o rfl; cases h) (by rintro rfl; cases h)
  cases f with
  | ld_r_r | ld_r_d8 | ld_r_atHL | ld_atHL_r | ld_atHL_d8 | ld_A_at | ld_at_A | ld_A_atA16 | ld_atA16_A | ldh_A_atA8
  | ldh_atA8_A | ldh_A_atC | ldh_atC_A => exact hl
  | _ => cases h

/-- Nor do they write F: no flag is touched. -/
theorem F_not_mem_writesRegs_load8 {f : Form} (h : f.isLoad8 = true) : .F ∉ writesRegs f := by
  cases f with
  | ld_r_r d | ld_r_d8 d | ld_r_atHL d => exact fun hF => RField.reg_ne_F d (List.mem_singleton.1 hF).symm
  | ld_A_at x | ld_at_A x => cases x <;> decide
  | ld_A_atA16 | ldh_A_atA8 | ldh_A_atC =>
    show Reg8.F ∉ [Reg8.A]
    decide
  | ld_atHL_r | ld_atHL_d8 | ld_atA16_A | ldh_atA8_A | ldh_atC_A => exact List.not_mem_nil
  | _ => cases h

/-- What a store leaves alone. -/
theorem store8_frame (f : Form) (s : State) (h : f.isLoad8 = true) :
    SameRegs (writesRegs f) s (f.run s) ∧ SameFlags [] s (f.run s) ∧ SameControl s (f.run s) := by
  have hl := leaves_load8 h s
  exact ⟨hl.regs, sameFlags_of_eq (hl.regs .F (F_not_mem_writesRegs_load8 h)) [], hl.sameControl⟩

/-- What a load leaves alone: memory and the log too. -/
theorem load8_frame (f : Form) (s : State) (h : f.isLoad8 = true) (hb : writesBus (selected f) = false) :
    SameRegs (writesRegs f) s (f.run s) ∧ SameFlags [] s (f.run s) ∧ SameMemory s (f.run s) ∧ SameControl s (f.run s) := by
  obtain ⟨hregs, hflags, hcontrol⟩ := store8_frame f s h
  exact ⟨hregs, hflags, run_sameMemory f s hb, hcontrol⟩

/-! ## Loads and stores at the address in a pair -/

/-- What a byte store does is still done after changes that leave memory and the log. -/
theorem StoresByte.of_eq {a : Word} {v : Byte} {s t u : State} (h : StoresByte a v s t) (hm : u.mem = t.mem)
    (hlog : u.log = t.log) : StoresByte a v s u := by
  obtain ⟨hsame, hother, hlog'⟩ := h
  refine ⟨?_, fun b hb => ?_, hlog.trans hlog'⟩
  · rw [State.read_congr hm, hsame]
  · rw [State.read_congr hm, hother b hb]

/-- HL after the step of `[HL+]` (R116, R117). -/
theorem State.get16_atStep_HLinc (s : State) : (s.atStep .HLinc).get16 .HL = s.get16 .HL + 1 := by
  rw [State.atStep, State.get16_set16_same, if_neg (by decide)]

/-- HL after the step of `[HL-]` (R118, R119). -/
theorem State.get16_atStep_HLdec (s : State) : (s.atStep .HLdec).get16 .HL = s.get16 .HL - 1 := by
  rw [State.atStep, State.get16_set16_same, if_neg (by decide)]

/-- The step of HL leaves the loaded A (R106, R107, R117, R119). -/
theorem get8_A_loadAAt (x : AtField) (s : State) : (loadAAt x s).get8 .A = s.read (s.atAddr x) :=
  State.atStep_a _ x

/-- The step of HL leaves the stored byte and the log (R108, R109, R116, R118). -/
theorem storeAtA_storesByte (x : AtField) (s : State) : StoresByte (s.atAddr x) (s.get8 .A) s (storeAtA x s) :=
  (s.write_storesByte _ _).of_eq (State.atStep_mem _ x) (State.atStep_log _ x)

/-! ## The high page -/

/-- An address of the high page as base plus offset: the two have no bit in common (R75; D11). -/
theorem highPageAddr_eq_add (n : Byte) : highPageAddr n = 0xFF00 + n.setWidth 16 := by
  have hdisj : (0xFF00 : Word) &&& n.setWidth 16 = 0 := by revert n; decide
  exact (BitVec.add_eq_or_of_and_eq_zero _ _ hdisj).symm

/-- No store owns an address of the high page (R41). -/
theorem region_highPage (n : Byte) : region (0xFF00 + n.setWidth 16) = .unmapped :=
  region_eq_unmapped.2 (.inr (.inr (by bv_omega)))

/-- A store at an unmapped address changes no byte and is logged (R43, R262). -/
theorem StoresByte.of_unmapped {a : Word} {v : Byte} {s t : State} (h : StoresByte a v s t) (ha : region a = .unmapped) :
    t.log = s.log ++ [⟨a, .writeUnmapped⟩] ∧ ∀ b, t.read b = s.read b := by
  obtain ⟨hsame, hother, hlog⟩ := h
  refine ⟨by rw [hlog, warningsOf, ha], fun b => ?_⟩
  by_cases hb : b = a
  · rw [hb, hsame, if_neg (by rw [ha]; decide)]
  · exact hother b hb

/-- What A is loaded with from the high page: the byte there, which is the open-bus value (R42, R112, R114). -/
theorem read_highPageAddr (n : Byte) (s : State) :
    s.read (highPageAddr n) = s.read (0xFF00 + n.setWidth 16) ∧ s.read (highPageAddr n) = 0xFF := by
  rw [highPageAddr_eq_add]
  exact ⟨rfl, s.read_unmapped (region_highPage n)⟩

/-- A store in the high page is ignored, with one record (R113, R115). -/
theorem write_highPageAddr (n v : Byte) (s : State) :
    StoresByte (0xFF00 + n.setWidth 16) v s (s.write (highPageAddr n) v) ∧
    (s.write (highPageAddr n) v).log = s.log ++ [⟨0xFF00 + n.setWidth 16, .writeUnmapped⟩] ∧
    ∀ a, (s.write (highPageAddr n) v).read a = s.read a := by
  rw [highPageAddr_eq_add]
  have h := s.write_storesByte (0xFF00 + n.setWidth 16) v
  exact ⟨h, h.of_unmapped (region_highPage n)⟩

/-! ## The statements -/

/-- Settles O27: the kind writes one register, with what the source held before. -/
theorem loadRegisterFromRegister : Obligations.LoadRegisterFromRegister := fun _ d r s hi =>
  encodedAs_and_next hi rfl rfl rfl
    ⟨s.get8_setR_same d _, load8_frame (.ld_r_r d r) s rfl rfl⟩

/-- Settles O28: the byte loaded is the operand, or the one read at HL in the state before. -/
theorem loadRegisterFromByte : Obligations.LoadRegisterFromByte := by
  refine ⟨fun i d n s hi => ?_, fun i d s hi => ?_⟩
  · have hb : (Form.ld_r_d8 d n).encode = [BitVec.ofNat 8 (0x06 + 8 * d.code), n] :=
      congrArg ([·, n]) (opcode_eq (by omega))
    exact encodedAs_and_next hi rfl rfl hb
      ⟨s.get8_setR_same d n, load8_frame (.ld_r_d8 d n) s rfl rfl⟩
  · have hb : (Form.ld_r_atHL d).encode = [BitVec.ofNat 8 (0x46 + 8 * d.code)] :=
      congrArg ([·]) (opcode_eq (by omega))
    exact encodedAs_and_next hi rfl rfl hb
      ⟨s.get8_setR_same d _, load8_frame (.ld_r_atHL d) s rfl rfl⟩

/-- Settles O29: the kind is one bus write at HL. -/
theorem storeAtHL : Obligations.StoreAtHL := by
  refine ⟨fun i r s hi => ?_, fun i n s hi => ?_⟩
  · exact encodedAs_and_next hi rfl rfl rfl
      ⟨s.write_storesByte _ _, store8_frame (.ld_atHL_r r) s rfl⟩
  · exact encodedAs_and_next hi rfl rfl rfl
      ⟨s.write_storesByte _ _, store8_frame (.ld_atHL_d8 n) s rfl⟩

/-- Settles O30: the load reads at the pair's address, and the step of HL after it leaves A. -/
theorem loadAFromPairAddress : Obligations.LoadAFromPairAddress := by
  refine ⟨fun s => ?_, fun s => ?_, fun s => ?_, fun s => ?_⟩
  · exact encodedAs_and_next rfl rfl rfl rfl
      ⟨get8_A_loadAAt .BC s, load8_frame (.ld_A_at .BC) s rfl rfl⟩
  · exact encodedAs_and_next rfl rfl rfl rfl
      ⟨get8_A_loadAAt .DE s, load8_frame (.ld_A_at .DE) s rfl rfl⟩
  · exact encodedAs_and_next rfl rfl rfl rfl
      ⟨get8_A_loadAAt .HLinc s, State.get16_atStep_HLinc _,
        load8_frame (.ld_A_at .HLinc) s rfl rfl⟩
  · exact encodedAs_and_next rfl rfl rfl rfl
      ⟨get8_A_loadAAt .HLdec s, State.get16_atStep_HLdec _,
        load8_frame (.ld_A_at .HLdec) s rfl rfl⟩

/-- Settles O31: one bus write at the pair's address; the step of HL after it starts from the HL that the write left. -/
theorem storeAAtPairAddress : Obligations.StoreAAtPairAddress := by
  refine ⟨fun s => ?_, fun s => ?_, fun s => ?_, fun s => ?_⟩
  · exact encodedAs_and_next rfl rfl rfl rfl
      ⟨storeAtA_storesByte .BC s, store8_frame (.ld_at_A .BC) s rfl⟩
  · exact encodedAs_and_next rfl rfl rfl rfl
      ⟨storeAtA_storesByte .DE s, store8_frame (.ld_at_A .DE) s rfl⟩
  · have hHL : (storeAtA .HLinc s).get16 .HL = s.get16 .HL + 1 := by
      rw [storeAtA, State.get16_atStep_HLinc, State.get16_write]
    exact encodedAs_and_next rfl rfl rfl rfl
      ⟨storeAtA_storesByte .HLinc s, hHL, store8_frame (.ld_at_A .HLinc) s rfl⟩
  · have hHL : (storeAtA .HLdec s).get16 .HL = s.get16 .HL - 1 := by
      rw [storeAtA, State.get16_atStep_HLdec, State.get16_write]
    exact encodedAs_and_next rfl rfl rfl rfl
      ⟨storeAtA_storesByte .HLdec s, hHL, store8_frame (.ld_at_A .HLdec) s rfl⟩

/-- Settles O32: one read or one bus write at the operand address. -/
theorem directLoadAndStore : Obligations.DirectLoadAndStore := by
  refine ⟨fun aa s => ?_, fun aa s => ?_⟩
  · exact encodedAs_and_next rfl rfl rfl rfl
      ⟨s.get8_set8_same .A _, load8_frame (.ld_A_atA16 aa) s rfl rfl⟩
  · exact encodedAs_and_next rfl rfl rfl rfl
      ⟨s.write_storesByte aa _, store8_frame (.ld_atA16_A aa) s rfl⟩

/-- Settles O33: by what a read and a bus write do in the high page, at the operand's offset or at C's. -/
theorem highPageLoadAndStore : Obligations.HighPageLoadAndStore := by
  refine ⟨fun n s => ?_, fun s => ?_, fun n s => ?_, fun s => ?_⟩
  · obtain ⟨hread, hopen⟩ := read_highPageAddr n s
    exact encodedAs_and_next rfl rfl rfl rfl
      ⟨hread, hopen, load8_frame (.ldh_A_atA8 n) s rfl rfl⟩
  · obtain ⟨hread, hopen⟩ := read_highPageAddr s.c s
    exact encodedAs_and_next rfl rfl rfl rfl
      ⟨hread, hopen, load8_frame .ldh_A_atC s rfl rfl⟩
  · obtain ⟨hstore, hlog, hread⟩ := write_highPageAddr n s.a s
    exact encodedAs_and_next rfl rfl rfl rfl
      ⟨hstore, hlog, hread, store8_frame (.ldh_atA8_A n) s rfl⟩
  · obtain ⟨hstore, hlog, hread⟩ := write_highPageAddr s.c s.a s
    exact encodedAs_and_next rfl rfl rfl rfl
      ⟨hstore, hlog, hread, store8_frame .ldh_atC_A s rfl⟩

end Sys2Proof.Machine
end

section
/-! PROOFS: the family of 41_load16.md. First what an operation that does not write F leaves alone, and the load of a pair;
then SP plus a signed byte, and POP; then the statements themselves. -/

namespace Sys2Proof.Machine

/-! ## Frames -/

/-- An operation that writes neither IME nor ExecutorState. -/
theorem Leaves.sameMode {xs : List Reg8} {sp pc : Bool} {s t : State} (h : Leaves xs sp pc false s t) : SameMode s t :=
  ⟨h.execState, h.ime rfl⟩

/-- An operation that does not write F touches no flag. -/
theorem Leaves.sameFlags {xs : List Reg8} {sp pc ime : Bool} {s t : State} (h : Leaves xs sp pc ime s t) (hF : .F ∉ xs) :
    SameFlags [] s t :=
  sameFlags_of_eq (h.regs .F hF) []

/-! ## The load of a pair -/

theorem PairField.reg_ne_AF (rr : PairField) : rr.reg ≠ .AF := by cases rr <;> decide

/-- `LD rr,d16` writes the halves of its pair, and SP only where that is the operand (R130). -/
theorem leaves_loadPairImm (rr : PairField) (nn : Word) (s : State) :
    Leaves rr.reg.halves (decide (rr = .SP)) false false s (loadPairImm rr nn s) := by
  cases rr <;> exact leaves_set16 _ nn s

theorem PairField.F_not_mem_halves (rr : PairField) : .F ∉ rr.reg.halves := by cases rr <;> decide

/-- It leaves the operand in the pair (R130). -/
theorem get16_loadPairImm (rr : PairField) (nn : Word) (s : State) : (loadPairImm rr nn s).get16 rr.reg = nn := by
  rw [loadPairImm, State.get16_set16_same, if_neg (PairField.reg_ne_AF rr)]

/-! ## SP plus a signed byte -/

/-- A flag update leaves every 16-bit register but AF. -/
theorem State.get16_setFlags (s : State) {r : Reg16} (u : FlagUpdate) (h : r ≠ .AF) :
    (s.setFlags u).get16 r = s.get16 r := by
  cases r <;> simp [State.get16, State.get8] at h ⊢

/-- The flags of the SP additions: Z and N clear, H and C from the unsigned addition to the low byte (R133, R183; C5, D12). -/
theorem setFlags_addSPe8 (w : Word) (e : Byte) {s t : State} (hf : t.f = s.f) :
    (t.setFlags (addSPe8 w e).flags).getFlag .Z = false ∧ (t.setFlags (addSPe8 w e).flags).getFlag .N = false ∧
    (t.setFlags (addSPe8 w e).flags).getFlag .H = decide (w.toNat % 16 + e.toNat % 16 > 0xF) ∧
    (t.setFlags (addSPe8 w e).flags).getFlag .C = decide (w.toNat % 256 + e.toNat > 0xFF) ∧
    SameFlags [.Z, .N, .H, .C] s (t.setFlags (addSPe8 w e).flags) :=
  ⟨State.getFlag_setFlags .., State.getFlag_setFlags .., State.getFlag_setFlags .., State.getFlag_setFlags ..,
    sameFlags_setFlags hf fun x hx => by cases x <;> simp at hx⟩

/-- The sum of an SP addition, still there after its flags (R133, R183). -/
theorem toInt_get16_addSPe8 (s : State) {r : Reg16} (hr : r ≠ .AF) (e : Byte) :
    (((s.set16 r (addSPe8 s.sp e).res).setFlags (addSPe8 s.sp e).flags).get16 r).toInt =
      (s.sp.toInt + e.toInt).bmod (2 ^ 16) := by
  rw [State.get16_setFlags _ _ hr, State.get16_set16_same, if_neg hr]
  exact toInt_add_sext16 s.sp e

/-! ## POP -/

theorem StackField.reg_eq_AF {rr : StackField} : rr.reg = .AF ↔ rr = .AF := by cases rr <;> decide

theorem StackField.F_not_mem_halves {rr : StackField} (h : rr ≠ .AF) : .F ∉ rr.reg.halves := by
  cases rr with
  | AF => exact absurd rfl h
  | BC | DE | HL => decide

/-- POP writes the halves of its pair, and SP (R135, R136). -/
theorem leaves_popPair (rr : StackField) (s : State) : Leaves rr.reg.halves true false false s (popPair rr s) := by
  have h : Keeps (.pop rr) s := run_leaves _ s nofun nofun
  cases rr <;> exact h

/-- The SP that POP leaves (R48). -/
theorem sp_popPair (rr : StackField) (s : State) : (popPair rr s).sp = s.sp + 2 := by
  cases rr <;> exact s.pop16_snd_sp

/-- The pair that POP leaves, but for AF: the word popped (R135). -/
theorem get16_popPair {rr : StackField} (h : rr ≠ .AF) (s : State) :
    (popPair rr s).get16 rr.reg = s.read (s.sp + 1) ++ s.read s.sp := by
  rw [popPair, State.get16_set16_same, if_neg (mt StackField.reg_eq_AF.1 h)]
  exact s.pop16_fst

/-- The mask on F leaves the four flags (R12, R136). -/
theorem getLsbD_mask (v : Byte) (x : Flag) : (v &&& 0xF0).getLsbD x.bit = v.getLsbD x.bit := by
  cases x <;> revert v <;> decide

/-- The mask changes nothing where bits 3 to 0 are clear (R12). -/
theorem mask_of_lowNibble {v : Byte} (h : v &&& 0x0F = 0) : v &&& 0xF0 = v := by
  revert v; decide

/-- Each flag after POP AF is its bit of the low byte popped (R136; D25). -/
theorem getFlag_popPair_AF (s : State) (x : Flag) : (popPair .AF s).getFlag x = (s.read s.sp).getLsbD x.bit := by
  rw [popPair_AF_eq]
  exact getLsbD_mask _ x

/-- The low byte of AF is F (R11). -/
theorem lo_get16_AF (s : State) : lo (s.get16 .AF) = s.f := lo_word s.a s.f

/-- Writing a state's own AF into one with the same registers changes none of them where `F[3:0] = 0` (R12). -/
theorem sameRegs_set16_AF {s t : State} (h : SameRegs [] s t) (hf : s.f &&& 0x0F = 0) :
    SameRegs [] s (t.set16 .AF (s.get16 .AF)) := by
  intro r hr
  cases r with
  | A => exact hi_word s.a s.f
  | F =>
    rw [State.set16, State.get8_set8_same, if_pos rfl, lo_get16_AF]
    exact mask_of_lowNibble hf
  | B | C | D | E | H | L => exact h _ hr

/-- POP AF after PUSH AF, where both stack addresses are in VRAM or WRAM: AF is written back (R47, R48). -/
theorem popPair_pushPair_AF {s : State} (hhi : region (s.sp - 1) = .vram ∨ region (s.sp - 1) = .wram)
    (hlo : region (s.sp - 2) = .vram ∨ region (s.sp - 2) = .wram) :
    popPair .AF (pushPair .AF s) = (s.push16 (s.get16 .AF)).pop16.2.set16 .AF (s.get16 .AF) := by
  obtain ⟨-, -, hround⟩ := stackRoundTrip
  exact congrArg (State.set16 _ .AF) ((hround s (s.get16 .AF)).2 hhi hlo)

end Sys2Proof.Machine

/-! ## The statements

In a namespace of their own, for three of them share their names with operations of the model. -/

namespace Sys2Proof.Machine.Load16

/-- Settles O34: both write one 16-bit register. -/
theorem loadPairOrSP : Obligations.LoadPairOrSP := by
  refine ⟨fun i rr nn s hi => ?_, fun s => ?_⟩
  · have hb : (Form.ld_rr_d16 rr nn).encode =
        [BitVec.ofNat 8 (0x01 + 16 * rr.code), nn.extractLsb' 0 8, nn.extractLsb' 8 8] :=
      congrArg ([·, nn.extractLsb' 0 8, nn.extractLsb' 8 8]) (opcode_eq (by omega))
    have hl := leaves_loadPairImm rr nn s
    exact encodedAs_and_next hi rfl rfl hb
      ⟨get16_loadPairImm rr nn s, by cases rr <;> exact hl.regs, fun h => hl.sp (decide_eq_false h),
        hl.sameFlags (PairField.F_not_mem_halves rr), run_sameMemory (.ld_rr_d16 rr nn) s rfl, hl.pc rfl, hl.sameMode⟩
  · have hl : Keeps .ld_SP_HL s := run_leaves _ s nofun nofun
    exact encodedAs_and_next rfl rfl rfl rfl
      ⟨rfl, hl.regs, hl.sameFlags List.not_mem_nil, run_sameMemory .ld_SP_HL s rfl, hl.pc rfl, hl.sameMode⟩

/-- Settles O35: the kind is the two-byte store of SP. -/
theorem storeSPDirect : Obligations.StoreSPDirect := by
  intro aa s
  have hl : Keeps (.ld_atA16_SP aa) s := run_leaves _ s nofun nofun
  exact encodedAs_and_next rfl rfl rfl rfl
    ⟨s.write16_storesTwo aa s.sp, hl.regs, hl.sameFlags List.not_mem_nil, hl.sameControl⟩

/-- Settles O36: both write the same sum, and set the same flags after it. -/
theorem stackPointerPlusOffset : Obligations.StackPointerPlusOffset := by
  refine ⟨fun e s => ?_, fun e s => ?_⟩
  · have hl : Keeps (.ld_HL_SPe8 e) s := run_leaves _ s nofun nofun
    obtain ⟨hz, hn, hh, hc, hflags⟩ :=
      setFlags_addSPe8 s.sp e (s := s) (t := s.set16 .HL (addSPe8 s.sp e).res) rfl
    exact encodedAs_and_next rfl rfl rfl rfl
      ⟨toInt_get16_addSPe8 s (r := .HL) (by decide) e, hz, hn, hh, hc, hl.regs, hflags,
        run_sameMemory (.ld_HL_SPe8 e) s rfl, hl.sameControl⟩
  · have hl : Keeps (.add_SP_e8 e) s := run_leaves _ s nofun nofun
    obtain ⟨hz, hn, hh, hc, hflags⟩ :=
      setFlags_addSPe8 s.sp e (s := s) (t := s.set16 .SP (addSPe8 s.sp e).res) rfl
    exact encodedAs_and_next rfl rfl rfl rfl
      ⟨toInt_get16_addSPe8 s (r := .SP) (by decide) e, hz, hn, hh, hc, hl.regs, hflags,
        run_sameMemory (.add_SP_e8 e) s rfl, hl.pc rfl, hl.sameMode⟩

/-- Settles O37: the kind is `push16` of the pair, and the low byte of AF is F. -/
theorem pushPair : Obligations.PushPair := by
  intro i rr s hi
  have hb : (Form.push rr).encode = [BitVec.ofNat 8 (0xC5 + 16 * rr.code)] := congrArg ([·]) (opcode_eq (by omega))
  have hl := leaves_push (s.get16 rr.reg) s
  have hAF : rr = .AF → s.f &&& 0x0F = 0 → lo (s.get16 rr.reg) &&& 0x0F = 0 := by
    rintro rfl hf
    exact (lo_get16_AF s).symm ▸ hf
  exact encodedAs_and_next hi rfl rfl hb
    ⟨s.push16_sp _, s.push16_storesTwo _, hAF, hl.regs, hl.sameFlags List.not_mem_nil, hl.pc rfl, hl.sameMode⟩

/-- Settles O38: the word popped is written to the pair. -/
theorem popPair : Obligations.PopPair := by
  intro i rr s hi hrr
  have hb : (Form.pop rr).encode = [BitVec.ofNat 8 (0xC1 + 16 * rr.code)] := congrArg ([·]) (opcode_eq (by omega))
  have hl := leaves_popPair rr s
  refine encodedAs_and_next hi rfl rfl hb
    ⟨get16_popPair hrr s, sp_popPair rr s, ?_, hl.sameFlags (StackField.F_not_mem_halves hrr),
      run_sameMemory (.pop rr) s rfl, hl.pc rfl, hl.sameMode⟩
  cases rr with
  | AF => exact absurd rfl hrr
  | BC | DE | HL => exact hl.regs

/-- Settles O39: A and F are written with the bytes popped, F masked; after PUSH AF these are A and F. -/
theorem popAF : Obligations.PopAF := by
  refine ⟨fun s => ?_, fun s hf hhi hlo => ⟨_, _, rfl, rfl, ?_⟩⟩
  · have hl := leaves_popPair .AF s
    have hA := congrArg State.a (popPair_AF_eq s)
    have hF := congrArg State.f (popPair_AF_eq s)
    exact encodedAs_and_next rfl rfl rfl rfl
      ⟨hA, hF, sp_popPair .AF s, getFlag_popPair_AF s .Z, getFlag_popPair_AF s .N, getFlag_popPair_AF s .H,
        getFlag_popPair_AF s .C, hl.regs, run_sameMemory (.pop .AF) s rfl, hl.pc rfl, hl.sameMode⟩
  · have hsp : s.sp - 2 + 2 = s.sp := BitVec.sub_add_cancel ..
    refine ⟨?_, by rw [sp_popPair, Machine.pushPair, State.push16_sp, hsp]⟩
    rw [popPair_pushPair_AF hhi hlo]
    exact sameRegs_set16_AF ((leaves_push _ s).seq (leaves_pop _)).regs hf

end Sys2Proof.Machine.Load16
end

section
/-! PROOFS: the family of 42_alu8.md. First what an ALU instruction is encoded as and runs to, and what the operations on A
compute; then INC and DEC, and DAA; then the statements themselves. -/

namespace Sys2Proof.Machine

/-! ## ALU operations on A -/

/-- In each of its three operand forms, an ALU instruction is encoded as its form says and applies its operation to A and
the operand (R78, R141 to R164). -/
theorem AluInstr.encodedAs_and_next {i : Instr} {op : AluOp} {s : State} {v : Byte} {bytes : List Byte} {P : State → Prop}
    (h : AluInstr i op s v bytes) (hP : P (aluA op v s)) : EncodedAs i bytes ∧ ∃ t, exec i s = .next t ∧ P t := by
  rcases h with ⟨r, hi, rfl, rfl⟩ | ⟨hi, rfl, rfl⟩ | ⟨hi, rfl⟩
  · exact Machine.encodedAs_and_next hi rfl rfl (congrArg ([·]) (opcode_eq (by omega))) hP
  · exact Machine.encodedAs_and_next hi rfl rfl (congrArg ([·]) (opcode_eq (by omega))) hP
  · exact Machine.encodedAs_and_next hi rfl rfl (congrArg ([·, v]) (opcode_eq (by omega))) hP

/-- Every operation but CP sets Z by the A it leaves. -/
theorem aluA_Z {op : AluOp} (hop : op ≠ .cp) (v : Byte) (s : State) :
    (aluA op v s).getFlag .Z = decide ((aluA op v s).a = 0) := by
  rw [aluA_flag, aluA_a, if_neg hop]
  cases op <;> rfl

/-- The sum that an operation on A leaves, and its flags (R140; D13). -/
theorem aluA_of_add8 {op : AluOp} {v : Byte} {s : State} {cin : Bool} (hop : op ≠ .cp)
    (h : alu8 op s.a v (s.getFlag .C) = add8 s.a v cin) :
    (aluA op v s).a.toNat = (s.a.toNat + v.toNat + cin.toNat) % 256 ∧
    (aluA op v s).getFlag .Z = decide ((aluA op v s).a = 0) ∧ (aluA op v s).getFlag .N = false ∧
    (aluA op v s).getFlag .H = decide (s.a.toNat % 16 + v.toNat % 16 + cin.toNat > 0xF) ∧
    (aluA op v s).getFlag .C = decide (s.a.toNat + v.toNat + cin.toNat > 0xFF) := by
  refine ⟨?_, aluA_Z hop v s, ?_, ?_, ?_⟩
  · rw [aluA_a, if_neg hop, h, add8_res]
  all_goals rw [aluA_flag, h]; rfl

/-- The borrow from bit 4, over the natural numbers (R140). -/
theorem sub8_h (a b : Byte) (c : Bool) :
    (sub8 a b c).flags.h = some (decide (a.toNat % 16 < b.toNat % 16 + c.toNat)) := by
  simp only [sub8, Option.some.injEq, decide_eq_decide]
  omega

/-- The borrow, over the natural numbers (R140). -/
theorem sub8_c (a b : Byte) (c : Bool) : (sub8 a b c).flags.c = some (decide (a.toNat < b.toNat + c.toNat)) := by
  simp only [sub8, Option.some.injEq, decide_eq_decide]
  omega

/-- The difference that an operation on A leaves (R140; D13). -/
theorem toNat_aluA_of_sub8 {op : AluOp} {v : Byte} {s : State} {cin : Bool} (hop : op ≠ .cp)
    (h : alu8 op s.a v (s.getFlag .C) = sub8 s.a v cin) :
    (aluA op v s).a.toNat = (s.a.toNat + 256 - v.toNat - cin.toNat) % 256 := by
  rw [aluA_a, if_neg hop, h, sub8_res]

/-- N, H and C of a difference, whether or not A takes it (R140, R162; D13). -/
theorem flags_aluA_of_sub8 {op : AluOp} {v : Byte} {s : State} {cin : Bool}
    (h : alu8 op s.a v (s.getFlag .C) = sub8 s.a v cin) :
    (aluA op v s).getFlag .N = true ∧
    (aluA op v s).getFlag .H = decide (s.a.toNat % 16 < v.toNat % 16 + cin.toNat) ∧
    (aluA op v s).getFlag .C = decide (s.a.toNat < v.toNat + cin.toNat) := by
  refine ⟨?_, ?_, ?_⟩ <;> rw [aluA_flag, h]
  · rfl
  · rw [FlagUpdate.get, sub8_h, Option.getD_some]
  · rw [FlagUpdate.get, sub8_c, Option.getD_some]

/-- CP sets Z exactly for an operand equal to A (R162). -/
theorem aluA_cp_Z (v : Byte) (s : State) : (aluA .cp v s).getFlag .Z = decide (s.a = v) := by
  rw [aluA_flag]
  exact decide_eq_decide.2 (sub8_res_eq_zero s.a v)

/-- Each bit of A after AND, XOR, OR (R153, R156, R159). -/
theorem getLsbD_aluA_logic {op : AluOp} (hop : op ∈ [AluOp.and, .xor, .or]) (v : Byte) (s : State) (k : Nat) :
    (aluA op v s).a.getLsbD k =
      if op = .and then (s.a.getLsbD k && v.getLsbD k)
      else if op = .xor then (s.a.getLsbD k != v.getLsbD k)
      else (s.a.getLsbD k || v.getLsbD k) := by
  rw [aluA_a]
  cases op with
  | and => exact BitVec.getLsbD_and
  | xor => exact BitVec.getLsbD_xor
  | or => exact BitVec.getLsbD_or
  | add | adc | sub | sbc | cp => simp at hop

/-- The constant flags of AND, XOR, OR (R153, R156, R159). -/
theorem flags_aluA_logic {op : AluOp} (hop : op ∈ [AluOp.and, .xor, .or]) (v : Byte) (s : State) :
    (aluA op v s).getFlag .N = false ∧ (aluA op v s).getFlag .H = decide (op = .and) ∧
    (aluA op v s).getFlag .C = false := by
  simp only [aluA_flag]
  cases op with
  | and | xor | or => exact ⟨rfl, rfl, rfl⟩
  | add | adc | sub | sbc | cp => simp at hop

/-! ## INC and DEC -/

/-- A register written before a flag update is still there after it. -/
theorem State.getR_setFlags_setR (s : State) (r : RField) (v : Byte) (u : FlagUpdate) :
    ((s.setR r v).setFlags u).getR r = v := by
  rw [State.getR, State.get8_setFlags _ u (RField.reg_ne_F r), State.get8_setR_same]

/-- The decrement of a byte, as a sum (R167). -/
theorem toNat_byte_sub_one (v : Byte) : (v - 1).toNat = (v.toNat + 255) % 256 := by bv_omega

/-- Z of INC, by the byte before it (R166). -/
theorem byte_add_one_eq_zero_iff (v : Byte) : v + 1 = 0 ↔ v.toNat = 255 := by bv_omega

/-- Z of DEC, by the byte before it (R168). -/
theorem byte_sub_one_eq_zero_iff (v : Byte) : v - 1 = 0 ↔ v.toNat = 1 := by bv_omega

/-- A flag update that leaves C, after changes that leave F. -/
theorem sameFlags_of_c_none {s t : State} {u : FlagUpdate} (h : t.f = s.f) (hc : u.c = none) :
    SameFlags [.Z, .N, .H] s (t.setFlags u) :=
  sameFlags_setFlags h fun x hx => by
    cases x with
    | C => exact hc
    | Z | N | H => simp at hx

/-! ## DAA -/

/-- C after an addition: set by the carry before, or by A out of range (R169; D24). -/
theorem daa8_c_add (a : Byte) (h c : Bool) :
    (daa8 a false h c).flags.c = some (decide (c = true ∨ a.toNat > 0x99)) := by
  cases c <;> simp [daa8]

/-- Each flag after DAA (R169). -/
theorem daa_flag (s : State) (x : Flag) :
    (daa s).getFlag x =
      ((daa8 s.a (s.getFlag .N) (s.getFlag .H) (s.getFlag .C)).flags.get x).getD (s.getFlag x) :=
  State.getFlag_setFlags ..

/-- A after DAA (R169). -/
theorem daa_a (s : State) : (daa s).a = (daa8 s.a (s.getFlag .N) (s.getFlag .H) (s.getFlag .C)).res :=
  State.setFlags_a ..

/-- After an addition (R169; D24). -/
theorem daa_of_add {s : State} (hN : s.getFlag .N = false) :
    (daa s).a.toNat = (s.a.toNat + (if s.getFlag .H = true ∨ s.a.toNat % 16 > 9 then 0x06 else 0)
      + (if s.getFlag .C = true ∨ s.a.toNat > 0x99 then 0x60 else 0)) % 256 ∧
    (daa s).getFlag .C = decide (s.getFlag .C = true ∨ s.a.toNat > 0x99) := by
  rw [daa_a, daa_flag, hN]
  exact ⟨daa8_res_add .., by rw [FlagUpdate.get, daa8_c_add, Option.getD_some]⟩

/-- After a subtraction (R169; D24). -/
theorem daa_of_sub {s : State} (hN : s.getFlag .N = true) :
    (daa s).a.toNat = (s.a.toNat + 256 - (if s.getFlag .H = true then 0x06 else 0)
      - (if s.getFlag .C = true then 0x60 else 0)) % 256 ∧
    (daa s).getFlag .C = s.getFlag .C := by
  rw [daa_a, daa_flag, hN]
  exact ⟨daa8_res_sub .., rfl⟩

/-! ## CPL, SCF, CCF -/

/-- A flag update that leaves Z alone. -/
theorem sameFlags_of_z_none {s : State} {u : FlagUpdate} (hz : u.z = none) : SameFlags [.N, .H, .C] s (s.setFlags u) :=
  sameFlags_setFlags rfl fun x hx => by
    cases x with
    | Z => exact hz
    | N | H | C => simp at hx

/-! ## The statements -/

/-- Settles O40: the sum without carry-in. -/
theorem addToA : Obligations.AddToA := by
  intro i s v bytes hi
  obtain ⟨ha, hz, hn, hh, hc⟩ := aluA_of_add8 (op := .add) (v := v) (s := s) (cin := false) (by decide) rfl
  exact hi.encodedAs_and_next ⟨ha, hz, hn, hh, hc, aluA_frame .add v s⟩

/-- Settles O41: the difference without borrow-in, which CP does not write. -/
theorem subtractAndCompare : Obligations.SubtractAndCompare := by
  refine ⟨fun i s v bytes hi => ?_, fun i s v bytes hi => ?_⟩
  · have ha := toNat_aluA_of_sub8 (op := .sub) (v := v) (s := s) (cin := false) (by decide) rfl
    obtain ⟨hn, hh, hc⟩ := flags_aluA_of_sub8 (op := .sub) (v := v) (s := s) (cin := false) rfl
    exact hi.encodedAs_and_next ⟨ha, aluA_Z (by decide) v s, hn, hh, hc, aluA_frame .sub v s⟩
  · obtain ⟨hn, hh, hc⟩ := flags_aluA_of_sub8 (op := .cp) (v := v) (s := s) (cin := false) rfl
    exact hi.encodedAs_and_next ⟨aluA_cp_Z v s, hn, hh, hc, aluA_frame .cp v s⟩

/-- Settles O42: the sum and the difference with the carry flag as carry-in. -/
theorem addAndSubtractWithCarry : Obligations.AddAndSubtractWithCarry := by
  refine ⟨fun i s v bytes hi => ?_, fun i s v bytes hi => ?_⟩
  · obtain ⟨ha, hz, hn, hh, hc⟩ := aluA_of_add8 (op := .adc) (v := v) (s := s) (by decide) rfl
    exact hi.encodedAs_and_next ⟨ha, hz, hn, hh, hc, aluA_frame .adc v s⟩
  · have ha := toNat_aluA_of_sub8 (op := .sbc) (v := v) (s := s) (by decide) rfl
    obtain ⟨hn, hh, hc⟩ := flags_aluA_of_sub8 (op := .sbc) (v := v) (s := s) rfl
    exact hi.encodedAs_and_next ⟨ha, aluA_Z (by decide) v s, hn, hh, hc, aluA_frame .sbc v s⟩

/-- Settles O43: each operation bit by bit, and its constant flags. -/
theorem logicOnA : Obligations.LogicOnA := by
  intro i op s v bytes hop hi
  have hcp : op ≠ .cp := by rintro rfl; simp at hop
  obtain ⟨hn, hh, hc⟩ := flags_aluA_logic hop v s
  have hframe := aluA_frame op v s
  rw [if_neg hcp] at hframe
  exact hi.encodedAs_and_next ⟨fun k _ => getLsbD_aluA_logic hop v s k, aluA_Z hcp v s, hn, hh, hc, hframe⟩

/-- Settles O44: one register is written, then the flags of its value before. -/
theorem incAndDecRegister : Obligations.IncAndDecRegister := by
  refine ⟨fun i r s hi => ?_, fun i r s hi => ?_⟩
  · have hb : (Form.inc_r r).encode = [BitVec.ofNat 8 (0x04 + 8 * r.code)] := congrArg ([·]) (opcode_eq (by omega))
    have hr : (incReg r s).getR r = s.getR r + 1 := State.getR_setFlags_setR ..
    have hres : ((incReg r s).getR r).toNat = ((s.getR r).toNat + 1) % 256 := by
      rw [hr]
      exact BitVec.toNat_add ..
    have hz : (incReg r s).getFlag .Z = decide ((incReg r s).getR r = 0) := by
      rw [hr]
      exact State.getFlag_setFlags ..
    have hl : Keeps (.inc_r r) s := run_leaves _ s nofun nofun
    exact encodedAs_and_next hi rfl rfl hb
      ⟨hres, hz, State.getFlag_setFlags .., State.getFlag_setFlags .., hl.regs,
        sameFlags_of_c_none (State.setR_f ..) rfl, run_sameMemory (.inc_r r) s rfl, hl.sameControl⟩
  · have hb : (Form.dec_r r).encode = [BitVec.ofNat 8 (0x05 + 8 * r.code)] := congrArg ([·]) (opcode_eq (by omega))
    have hr : (decReg r s).getR r = s.getR r - 1 := State.getR_setFlags_setR ..
    have hres : ((decReg r s).getR r).toNat = ((s.getR r).toNat + 255) % 256 := by
      rw [hr]
      exact toNat_byte_sub_one _
    have hz : (decReg r s).getFlag .Z = decide ((decReg r s).getR r = 0) := by
      rw [hr]
      exact State.getFlag_setFlags ..
    have hl : Keeps (.dec_r r) s := run_leaves _ s nofun nofun
    exact encodedAs_and_next hi rfl rfl hb
      ⟨hres, hz, State.getFlag_setFlags .., State.getFlag_setFlags .., hl.regs,
        sameFlags_of_c_none (State.setR_f ..) rfl, run_sameMemory (.dec_r r) s rfl, hl.sameControl⟩

/-- Settles O45: one bus write at HL, then the flags of the byte read there. -/
theorem incAndDecAtHL : Obligations.IncAndDecAtHL := by
  refine ⟨fun s => ?_, fun s => ?_⟩
  · have hl : Keeps .inc_atHL s := run_leaves _ s nofun nofun
    have hz : (incHL s).getFlag .Z = decide (s.readHL.toNat = 255) :=
      (State.getFlag_setFlags ..).trans (decide_eq_decide.2 (byte_add_one_eq_zero_iff _))
    exact encodedAs_and_next rfl rfl rfl rfl
      ⟨(s.write_storesByte _ _).setFlags _, hz, State.getFlag_setFlags .., State.getFlag_setFlags .., hl.regs,
        sameFlags_of_c_none (State.writeHL_f ..) rfl, hl.sameControl⟩
  · have hl : Keeps .dec_atHL s := run_leaves _ s nofun nofun
    have hz : (decHL s).getFlag .Z = decide (s.readHL.toNat = 1) :=
      (State.getFlag_setFlags ..).trans (decide_eq_decide.2 (byte_sub_one_eq_zero_iff _))
    exact encodedAs_and_next rfl rfl rfl rfl
      ⟨(s.write_storesByte _ _).setFlags _, hz, State.getFlag_setFlags .., State.getFlag_setFlags .., hl.regs,
        sameFlags_of_c_none (State.writeHL_f ..) rfl, hl.sameControl⟩

/-- Settles O46: A and C by the two cases of N, Z by the A left. -/
theorem decimalAdjust : Obligations.DecimalAdjust := by
  intro s
  have hl : Keeps .daa s := run_leaves _ s nofun nofun
  have hz : (daa s).getFlag .Z = decide ((daa s).a = 0) := by
    rw [daa_flag, daa_a]
    rfl
  have hflags : SameFlags [.Z, .H, .C] s (daa s) :=
    sameFlags_setFlags rfl fun x hx => by
      cases x with
      | N => rfl
      | Z | H | C => simp at hx
  exact encodedAs_and_next rfl rfl rfl rfl
    ⟨daa_of_add, daa_of_sub, hz, daa_flag s .H, hl.regs, hflags, run_sameMemory .daa s rfl, hl.sameControl⟩

/-- Settles O47: constant flags, but for the complemented C of CCF; the complement of A is an exclusive or. -/
theorem complementAndCarry : Obligations.ComplementAndCarry := by
  refine ⟨fun s => ?_, fun s => ?_, fun s => ?_⟩
  · have hl : Keeps .cpl s := run_leaves _ s nofun nofun
    have ha : (cpl s).a = s.a ^^^ 0xFF := (State.setFlags_a ..).trans BitVec.xor_allOnes.symm
    have hflags : SameFlags [.N, .H] s (cpl s) :=
      sameFlags_setFlags rfl fun x hx => by
        cases x with
        | Z | C => rfl
        | N | H => simp at hx
    exact encodedAs_and_next rfl rfl rfl rfl
      ⟨ha, State.getFlag_setFlags .., State.getFlag_setFlags .., hl.regs,
        hflags, run_sameMemory .cpl s rfl, hl.sameControl⟩
  · have hl : Keeps .scf s := run_leaves _ s nofun nofun
    exact encodedAs_and_next rfl rfl rfl rfl
      ⟨State.getFlag_setFlags .., State.getFlag_setFlags .., State.getFlag_setFlags .., hl.regs,
        sameFlags_of_z_none rfl, run_sameMemory .scf s rfl, hl.sameControl⟩
  · have hl : Keeps .ccf s := run_leaves _ s nofun nofun
    exact encodedAs_and_next rfl rfl rfl rfl
      ⟨State.getFlag_setFlags .., State.getFlag_setFlags .., State.getFlag_setFlags .., hl.regs,
        sameFlags_of_z_none rfl, run_sameMemory .ccf s rfl, hl.sameControl⟩

end Sys2Proof.Machine
end

section
/-! PROOFS: the family of 43_alu16.md. First the sum that ADD HL leaves, with its flags, and what writing a pair leaves
alone; then the statements themselves. -/

namespace Sys2Proof.Machine

/-! ## The sum in HL -/

/-- The sum that ADD HL leaves; the flag update after it does not touch HL (R180). -/
theorem toNat_get16_addHLPair (rr : PairField) (s : State) :
    ((addHLPair rr s).get16 .HL).toNat = ((s.get16 .HL).toNat + (s.get16 rr.reg).toNat) % 65536 := by
  have hsum : (addHLPair rr s).get16 .HL = (add16 (s.get16 .HL) (s.get16 rr.reg)).res := by
    rw [addHLPair, State.get16_setFlags _ _ (by decide), State.get16_set16_same, if_neg (by decide)]
  rw [hsum]
  exact BitVec.toNat_ofNat ..

/-- Each flag after ADD HL: as the addition sets it, over F before, which the write of HL leaves (R180). -/
theorem addHLPair_flag (rr : PairField) (s : State) (x : Flag) :
    (addHLPair rr s).getFlag x = ((add16 (s.get16 .HL) (s.get16 rr.reg)).flags.get x).getD (s.getFlag x) :=
  State.getFlag_setFlags ..

/-- ADD HL leaves Z and bits 3 to 0 of F (R180). -/
theorem addHLPair_sameFlags (rr : PairField) (s : State) : SameFlags [.N, .H, .C] s (addHLPair rr s) :=
  sameFlags_setFlags rfl fun x hx => by
    cases x with
    | Z => rfl
    | N | H | C => simp at hx

/-! ## The write of a pair -/

/-- What a write of a pair or SP leaves alone: all but its halves, and SP unless it is the one written (R73). -/
theorem State.set16_pair_frame (s : State) (rr : PairField) (w : Word) :
    SameRegs rr.reg.halves s (s.set16 rr.reg w) ∧ (rr ≠ .SP → (s.set16 rr.reg w).sp = s.sp) ∧
    SameFlags [] s (s.set16 rr.reg w) ∧ SameMemory s (s.set16 rr.reg w) ∧ (s.set16 rr.reg w).pc = s.pc ∧
    SameMode s (s.set16 rr.reg w) := by
  have hl := leaves_loadPairImm rr w s
  exact ⟨hl.regs, fun h => hl.sp (decide_eq_false h), hl.sameFlags (PairField.F_not_mem_halves rr),
    sameMemory_of_eq (State.set16_mem ..) (State.set16_log ..), hl.pc rfl, hl.sameMode⟩

/-- INC leaves the successor in the pair (R181). -/
theorem get16_incPair (rr : PairField) (s : State) : (incPair rr s).get16 rr.reg = s.get16 rr.reg + 1 :=
  get16_loadPairImm rr _ s

/-- DEC leaves the predecessor in the pair (R182). -/
theorem get16_decPair (rr : PairField) (s : State) : (decPair rr s).get16 rr.reg = s.get16 rr.reg - 1 :=
  get16_loadPairImm rr _ s

/-! ## The statements -/

/-- Settles O48: the sum of the values before is written to HL, then the flags of the addition. -/
theorem addToHL : Obligations.AddToHL := by
  intro i rr s hi
  have hb : (Form.add_HL_rr rr).encode = [BitVec.ofNat 8 (0x09 + 16 * rr.code)] :=
    congrArg ([·]) (opcode_eq (by omega))
  have hl : Keeps (.add_HL_rr rr) s := run_leaves _ s nofun nofun
  exact encodedAs_and_next hi rfl rfl hb
    ⟨toNat_get16_addHLPair rr s, addHLPair_flag rr s .N, addHLPair_flag rr s .H, addHLPair_flag rr s .C, hl.regs,
      addHLPair_sameFlags rr s, run_sameMemory (.add_HL_rr rr) s rfl, hl.sameControl⟩

/-- Settles O49: both are one write of the pair or SP. -/
theorem incAndDecPair : Obligations.IncAndDecPair := by
  refine ⟨fun i rr s hi => ?_, fun i rr s hi => ?_⟩
  · have hb : (Form.inc_rr rr).encode = [BitVec.ofNat 8 (0x03 + 16 * rr.code)] :=
      congrArg ([·]) (opcode_eq (by omega))
    obtain ⟨hregs, hframe⟩ := s.set16_pair_frame rr (s.get16 rr.reg + 1)
    exact encodedAs_and_next hi rfl rfl hb ⟨get16_incPair rr s, by cases rr <;> exact hregs, hframe⟩
  · have hb : (Form.dec_rr rr).encode = [BitVec.ofNat 8 (0x0B + 16 * rr.code)] :=
      congrArg ([·]) (opcode_eq (by omega))
    obtain ⟨hregs, hframe⟩ := s.set16_pair_frame rr (s.get16 rr.reg - 1)
    exact encodedAs_and_next hi rfl rfl hb ⟨get16_decPair rr s, by cases rr <;> exact hregs, hframe⟩

end Sys2Proof.Machine
end

section
/-! PROOFS: the family of 44_rotate_shift_bit.md. First the encodings after the CB byte; then the flags of a rotate or
shift, and the rotates of A; then what BIT, RES and SET do and leave alone; then the statements themselves. -/

namespace Sys2Proof.Machine

/-! ## Encodings and next states -/

/-- The bytes of an instruction of the CB table, the fields of the second added up (R71, R79). -/
theorem cbBytes_eq {x y z k : Nat} (h : 64 * x + 8 * y + z = k) :
    [Config.cbByte, opcode x y z] = [0xCB, BitVec.ofNat 8 k] :=
  congrArg ([0xCB, ·]) (opcode_eq h)

/-- `encodedAs_and_next` for a statement that also names the byte computed, as those about `[HL]` do. -/
theorem encodedAs_and_next_with {i : Instr} {f : Form} {bytes : List Byte} {P : State → Byte → Prop} {s : State}
    (hi : i.form = f) (hwf : f.wellFormed = true) (he : f.hasEntry = true) (hb : f.encode = bytes) {res : Byte}
    (hP : P (f.run s) res) : EncodedAs i bytes ∧ ∃ t res, exec i s = .next t ∧ P t res := by
  obtain ⟨henc, t, hnext, h⟩ := encodedAs_and_next (P := (P · res)) hi hwf he hb hP
  exact ⟨henc, t, res, hnext, h⟩

/-! ## Rotates and shifts -/

/-- The flags after a rotate or shift, however Z is set, where F was unchanged before them (R190 to R209). -/
theorem setFlags_rotate {s t : State} (h : t.f = s.f) (op : RotOp) (v : Byte) (cin z : Bool) {u : FlagUpdate}
    (hu : u = ⟨some z, some false, some false, some (rotate op v cin).2⟩) :
    (t.setFlags u).getFlag .Z = z ∧ (t.setFlags u).getFlag .N = false ∧ (t.setFlags u).getFlag .H = false ∧
    (t.setFlags u).getFlag .C = shiftedOutBit op v ∧ SameFlags [.Z, .N, .H, .C] s (t.setFlags u) := by
  subst hu
  refine ⟨State.getFlag_setFlags .., State.getFlag_setFlags .., State.getFlag_setFlags .., ?_, ?_⟩
  · rw [State.getFlag_setFlags]
    exact (rotate_spec op v cin).2
  · exact sameFlags_setFlags h fun x hx => by cases x <;> simp at hx

/-- What a rotate of A does and leaves alone; Z is cleared (R190 to R193; D29). -/
theorem rotA_spec (op : RotOp) (s : State) :
    (∀ k < 8, (rotA op s).a.getLsbD k = rotatedBit op s.a (s.getFlag .C) k) ∧
    (rotA op s).getFlag .Z = false ∧ (rotA op s).getFlag .N = false ∧ (rotA op s).getFlag .H = false ∧
    (rotA op s).getFlag .C = shiftedOutBit op s.a ∧
    SameRegs [.A, .F] s (rotA op s) ∧ SameFlags [.Z, .N, .H, .C] s (rotA op s) ∧ SameMemory s (rotA op s) ∧
    SameControl s (rotA op s) := by
  have ha : (rotA op s).a = (rotate op s.a (s.getFlag .C)).1 := State.setFlags_a ..
  have hbits : ∀ k < 8, (rotA op s).a.getLsbD k = rotatedBit op s.a (s.getFlag .C) k := by
    rw [ha]
    exact (rotate_spec ..).1
  obtain ⟨hz, hn, hh, hc, hflags⟩ : _ ∧ _ ∧ _ ∧ _ ∧ SameFlags [.Z, .N, .H, .C] s (rotA op s) :=
    setFlags_rotate rfl op s.a (s.getFlag .C) false rfl
  have hl : Leaves [.A, .F] false false false s (rotA op s) := (leaves_set8 .A _ s).seq (leaves_setFlags ..)
  have hmem : SameMemory s (rotA op s) := sameMemory_of_eq (State.setFlags_mem ..) (State.setFlags_log ..)
  exact ⟨hbits, hz, hn, hh, hc, hl.regs, hflags, hmem, hl.sameControl⟩

/-! ## BIT, RES, SET -/

/-- What BIT does and leaves alone, for a byte tested in a register or at HL (R210, R211). -/
theorem setFlags_bitFlags_spec (b : Fin 8) (v : Byte) (s : State) :
    (s.setFlags (bitFlags b v)).getFlag .Z = !v.getLsbD b.val ∧ (s.setFlags (bitFlags b v)).getFlag .N = false ∧
    (s.setFlags (bitFlags b v)).getFlag .H = true ∧ SameRegs [.F] s (s.setFlags (bitFlags b v)) ∧
    SameFlags [.Z, .N, .H] s (s.setFlags (bitFlags b v)) ∧ SameMemory s (s.setFlags (bitFlags b v)) ∧
    SameControl s (s.setFlags (bitFlags b v)) := by
  have hl := leaves_setFlags (bitFlags b v) s
  have hmem := sameMemory_of_eq (State.setFlags_mem s (bitFlags b v)) (State.setFlags_log ..)
  exact ⟨State.getFlag_setFlags .., State.getFlag_setFlags .., State.getFlag_setFlags .., hl.regs,
    sameFlags_of_c_none rfl rfl, hmem, hl.sameControl⟩

/-- The register that RES leaves, bit by bit (R212). -/
theorem getLsbD_getR_resReg (b : Fin 8) (r : RField) (s : State) :
    ∀ k < 8, ((resReg b r s).getR r).getLsbD k = if k = b.val then false else (s.getR r).getLsbD k := by
  rw [resReg, State.getR, State.get8_setR_same]
  exact resBit_spec b _

/-- The register that SET leaves, bit by bit (R214). -/
theorem getLsbD_getR_setReg (b : Fin 8) (r : RField) (s : State) :
    ∀ k < 8, ((setReg b r s).getR r).getLsbD k = if k = b.val then true else (s.getR r).getLsbD k := by
  rw [setReg, State.getR, State.get8_setR_same]
  exact setBit_spec b _

/-- What the write of an 8-bit register by its field leaves alone (R72). -/
theorem State.setR_frame (s : State) (r : RField) (v : Byte) :
    SameRegs [r.reg] s (s.setR r v) ∧ SameFlags [] s (s.setR r v) ∧ SameMemory s (s.setR r v) ∧
    SameControl s (s.setR r v) := by
  have hl : Leaves [r.reg] false false false s (s.setR r v) := leaves_set8 ..
  exact ⟨hl.regs, sameFlags_of_eq (State.setR_f ..) [], sameMemory_of_eq (State.setR_mem ..) (State.setR_log ..),
    hl.sameControl⟩

/-- What a write of the byte at HL does and leaves alone (R72, R43). -/
theorem State.writeHL_spec (s : State) (v : Byte) :
    StoresByte (s.get16 .HL) v s (s.writeHL v) ∧ SameRegs [] s (s.writeHL v) ∧ SameFlags [] s (s.writeHL v) ∧
    SameControl s (s.writeHL v) := by
  have hl : Leaves [] false false false s (s.writeHL v) := leaves_write ..
  exact ⟨s.write_storesByte .., hl.regs, sameFlags_of_eq (State.writeHL_f ..) [], hl.sameControl⟩

/-! ## The statements -/

/-- Settles O50: each of the four instructions is the rotate of A by its function. -/
theorem rotateA : Obligations.RotateA := by
  intro i op s hi
  simp only [List.mem_cons, List.not_mem_nil, or_false, Prod.mk.injEq] at hi
  obtain ⟨rfl, rfl⟩ | ⟨rfl, rfl⟩ | ⟨rfl, rfl⟩ | ⟨rfl, rfl⟩ := hi
  · exact encodedAs_and_next rfl rfl rfl rfl (rotA_spec .rlc s)
  · exact encodedAs_and_next rfl rfl rfl rfl (rotA_spec .rrc s)
  · exact encodedAs_and_next rfl rfl rfl rfl (rotA_spec .rl s)
  · exact encodedAs_and_next rfl rfl rfl rfl (rotA_spec .rr s)

/-- Settles O51: the rotated byte is written to the register, then the flags. -/
theorem rotateRegister : Obligations.RotateRegister := by
  intro i op r s hi
  have hr : (rotReg op r s).getR r = (rotate op (s.getR r) (s.getFlag .C)).1 := State.getR_setFlags_setR ..
  have hbits : ∀ k < 8, ((rotReg op r s).getR r).getLsbD k = rotatedBit op (s.getR r) (s.getFlag .C) k := by
    rw [hr]
    exact (rotate_spec ..).1
  obtain ⟨hz, hn, hh, hc, hflags⟩ : _ ∧ _ ∧ _ ∧ _ ∧ SameFlags [.Z, .N, .H, .C] s (rotReg op r s) :=
    setFlags_rotate (State.setR_f ..) op (s.getR r) (s.getFlag .C) _ rfl
  have hl : Keeps (.rot_r op r) s := run_leaves _ s nofun nofun
  rw [← hr] at hz
  exact encodedAs_and_next hi rfl rfl (cbBytes_eq (by omega))
    ⟨hbits, hz, hn, hh, hc, hl.regs, hflags, run_sameMemory (.rot_r op r) s rfl, hl.sameControl⟩

/-- Settles O52: one bus write of the rotated byte at HL, then the flags of the byte read there. -/
theorem rotateAtHL : Obligations.RotateAtHL := by
  intro i op s hi
  obtain ⟨hz, hn, hh, hc, hflags⟩ : _ ∧ _ ∧ _ ∧ _ ∧ SameFlags [.Z, .N, .H, .C] s (rotHL op s) :=
    setFlags_rotate (State.writeHL_f ..) op s.readHL (s.getFlag .C) _ rfl
  have hl : Keeps (.rot_atHL op) s := run_leaves _ s nofun nofun
  exact encodedAs_and_next_with hi rfl rfl (cbBytes_eq (by omega))
    ⟨(rotate_spec ..).1, (s.write_storesByte _ _).setFlags _, hz, hn, hh, hc, hl.regs, hflags, hl.sameControl⟩

/-- Settles O53: one flag update, by the byte tested. -/
theorem bitTest : Obligations.BitTest := by
  refine ⟨fun i b r s hi => ?_, fun i b s hi => ?_⟩
  · exact encodedAs_and_next hi rfl rfl (cbBytes_eq (by omega)) (setFlags_bitFlags_spec b (s.getR r) s)
  · exact encodedAs_and_next hi rfl rfl (cbBytes_eq (by omega)) (setFlags_bitFlags_spec b s.readHL s)

/-- Settles O54: one register is written, with its value before but for the one bit. -/
theorem resAndSetRegister : Obligations.ResAndSetRegister := by
  refine ⟨fun i b r s hi => ?_, fun i b r s hi => ?_⟩
  · exact encodedAs_and_next hi rfl rfl (cbBytes_eq (by omega)) ⟨getLsbD_getR_resReg b r s, s.setR_frame r _⟩
  · exact encodedAs_and_next hi rfl rfl (cbBytes_eq (by omega)) ⟨getLsbD_getR_setReg b r s, s.setR_frame r _⟩

/-- Settles O55: one bus write at HL, of the byte read there but for the one bit. -/
theorem resAndSetAtHL : Obligations.ResAndSetAtHL := by
  refine ⟨fun i b s hi => ?_, fun i b s hi => ?_⟩
  · exact encodedAs_and_next_with hi rfl rfl (cbBytes_eq (by omega)) ⟨resBit_spec b s.readHL, s.writeHL_spec _⟩
  · exact encodedAs_and_next_with hi rfl rfl (cbBytes_eq (by omega)) ⟨setBit_spec b s.readHL, s.writeHL_spec _⟩

end Sys2Proof.Machine
end

section
/-! PROOFS: the family of 45_control.md. First the encodings and the conditions, and what a jump leaves whether or not its
condition holds; then the two outcomes of CALL cc and RET cc; then the statements themselves. -/

namespace Sys2Proof.Machine

/-! ## Encodings and conditions -/

/-- The bytes of an instruction of the base table, the fields of its opcode added up (R71, R78). -/
theorem opcode_cons_eq {x y z k : Nat} (h : 64 * x + 8 * y + z = k) (operands : List Byte) :
    opcode x y z :: operands = BitVec.ofNat 8 k :: operands :=
  congrArg (· :: operands) (opcode_eq h)

/-- An instruction is encoded as its kind says (R70). -/
theorem encodedAs_of_form {i : Instr} {f : Form} {bytes : List Byte} (hi : i.form = f) (hwf : f.wellFormed = true)
    (hb : f.encode = bytes) : EncodedAs i bytes := by
  subst hi hb
  exact encodedAs_encode hwf

/-- Each condition tests Z or C, at its bit of F (R12, R220). -/
theorem State.cond_eq (s : State) :
    s.cond .NZ = decide (s.f.getLsbD 7 = false) ∧ s.cond .Z = decide (s.f.getLsbD 7 = true) ∧
    s.cond .NC = decide (s.f.getLsbD 4 = false) ∧ s.cond .C = decide (s.f.getLsbD 4 = true) := by
  simp [State.cond, State.getFlag, Flag.bit]

/-! ## Jumps under a condition -/

/-- `JP cc` writes PC alone, with its old value where the condition fails (R222). -/
theorem jumpIf_eq (cc : Cond) (aa : Word) (s : State) :
    jumpIf cc aa s = { s with pc := if s.cond cc then aa else s.pc } := by
  unfold jumpIf
  split <;> rfl

/-- And so does `JR cc`; the base is the address after the instruction (R225). -/
theorem jumpRelIf_eq (cc : Cond) (e : Byte) (s : State) :
    jumpRelIf cc e s = { s with pc := if s.cond cc then s.pc + sext16 e else s.pc } :=
  jumpIf_eq cc (s.pc + sext16 e) s

/-- The target of `JR cc` as a signed sum, or the PC before where the condition fails (R225). -/
theorem toInt_pc_jumpRelIf (cc : Cond) (e : Byte) (s : State) :
    (jumpRelIf cc e s).pc.toInt =
      if s.cond cc then (s.pc.toInt + e.toInt).bmod (2 ^ 16) else s.pc.toInt := by
  rw [jumpRelIf_eq, ← toInt_add_sext16]
  exact apply_ite BitVec.toInt ..

/-! ## Calls and returns under a condition -/

/-- `CALL cc` is CALL where its condition holds (R227). -/
theorem callIf_taken {cc : Cond} {s : State} (h : s.cond cc = true) (aa : Word) : callIf cc aa s = call aa s := if_pos h

/-- `CALL cc` does nothing where its condition fails (R227). -/
theorem callIf_not_taken {cc : Cond} {s : State} (h : s.cond cc = false) (aa : Word) : callIf cc aa s = s :=
  if_neg (Bool.eq_false_iff.1 h)

/-- `RET cc` is RET where its condition holds (R229). -/
theorem retIf_taken {cc : Cond} {s : State} (h : s.cond cc = true) : retIf cc s = ret s := if_pos h

/-- `RET cc` does nothing where its condition fails (R229). -/
theorem retIf_not_taken {cc : Cond} {s : State} (h : s.cond cc = false) : retIf cc s = s := if_neg (Bool.eq_false_iff.1 h)

/-- RST is CALL of its vector (R231). -/
theorem rst_eq_call (n : Fin 8) (s : State) : rst n s = call (BitVec.ofNat 16 (8 * n.val)) s := by
  rw [rst, Nat.mul_comm]

/-! ## The statements -/

/-- Settles O56: each jump writes PC alone. -/
theorem absoluteJumps : Obligations.AbsoluteJumps := by
  refine ⟨State.cond_eq, fun aa s => ?_, fun i cc aa s hi => ?_, fun s => ?_⟩
  · exact ⟨encodedAs_of_form rfl rfl rfl, rfl⟩
  · refine ⟨encodedAs_of_form hi rfl (opcode_cons_eq (by omega) _), ?_⟩
    rw [exec_of_form hi rfl, Form.run, jumpIf_eq]
  · exact ⟨encodedAs_of_form rfl rfl rfl, rfl⟩

/-- Settles O57: the sum is taken from PC past the two bytes, where the instruction runs. -/
theorem relativeJumps : Obligations.RelativeJumps := by
  refine ⟨fun e s => ?_, fun i cc e s hi => ?_⟩
  · exact encodedAs_and_next rfl rfl rfl rfl ⟨toInt_add_sext16 s.pc e, rfl⟩
  · have hpc : jumpRelIf cc e s = { s with pc := (jumpRelIf cc e s).pc } := by rw [jumpRelIf_eq]
    exact encodedAs_and_next hi rfl rfl (opcode_cons_eq (by omega) _) ⟨toInt_pc_jumpRelIf cc e s, hpc⟩

/-- Settles O58: the three are one call, which pushes PC and then writes it; or nothing, where the condition fails. -/
theorem calls : Obligations.Calls := by
  refine ⟨fun aa s => ?_, fun i cc aa s hi => ?_, fun i n s hi => ?_⟩
  · exact encodedAs_and_next rfl rfl rfl rfl (call_spec aa s)
  · refine ⟨encodedAs_of_form hi rfl (opcode_cons_eq (by omega) _),
      fun h => ⟨call aa s, ?_, call_spec aa s⟩, fun h => ?_⟩
    · rw [exec_of_form hi rfl, Form.run, callIf_taken h]
    · rw [exec_of_form hi rfl, Form.run, callIf_not_taken h]
  · refine ⟨encodedAs_of_form hi rfl (opcode_cons_eq (by omega) _), call _ s, ?_, call_spec _ s⟩
    rw [exec_of_form hi rfl, Form.run, rst_eq_call]

/-- Settles O59: PC is written with the word popped; or nothing, where the condition fails. -/
theorem returns : Obligations.Returns := by
  refine ⟨fun s => ?_, fun i cc s hi => ?_⟩
  · exact ⟨encodedAs_of_form rfl rfl rfl, congrArg Host.Outcome.next (ret_eq s)⟩
  · refine ⟨encodedAs_of_form hi rfl (opcode_cons_eq (by omega) _), fun h => ?_, fun h => ?_⟩
    · rw [exec_of_form hi rfl, Form.run, retIf_taken h, ret_eq]
    · rw [exec_of_form hi rfl, Form.run, retIf_not_taken h]

end Sys2Proof.Machine
end

section
/-! PROOFS: the family of 46_misc.md, with RETI of 45_control.md. First RETI as one write of the state; then the
statement itself. -/

namespace Sys2Proof.Machine

/-- `PC <- pop16(); IME <- 1`: RET's whole next state with IME set (R230). -/
theorem reti_eq (s : State) :
    reti s = { s with pc := s.read (s.sp + 1) ++ s.read s.sp, sp := s.sp + 2, ime := true } := by
  rw [reti, ret_eq]

/-- Settles O60: NOP, HALT, DI and EI each write at most their own field; RETI is RET with IME set. -/
theorem machineControl : Obligations.MachineControl := by
  refine ⟨fun s => ?nop, fun s => ?halt, fun s => ?di, fun s => ?ei, fun s => ?reti⟩
  case nop => exact ⟨encodedAs_of_form rfl rfl rfl, exec_next .nop s rfl⟩
  case halt => exact ⟨encodedAs_of_form rfl rfl rfl, exec_next .halt s rfl⟩
  case di => exact ⟨encodedAs_of_form rfl rfl rfl, exec_next .di s rfl⟩
  case ei => exact ⟨encodedAs_of_form rfl rfl rfl, exec_next .ei s rfl⟩
  case reti =>
    have hnext : exec .reti s = .next (reti s) := exec_next .reti s rfl
    exact ⟨encodedAs_of_form rfl rfl rfl, hnext.trans (congrArg Host.Outcome.next (reti_eq s))⟩

end Sys2Proof.Machine
end

section
/-! PROOFS: the family of 60_exceptions.md. First `wake` and `stop_request` as whole next states; then the ExecutorState
that a Running step leaves; then the statements themselves. -/

namespace Sys2Proof.Machine

/-! ## `wake` and `stop_request` -/

/-- `wake` is honoured in Halted (R266). -/
theorem wake_of_halted {s : State} (h : s.execState = .halted) : wake s = { s with execState := .running } := by
  simp only [wake, h]

/-- And nowhere else (R266, R278). -/
theorem wake_of_not_halted {s : State} (h : s.execState ≠ .halted) : wake s = s := by
  cases hs : s.execState with
  | halted => exact absurd hs h
  | running | stopped => simp only [wake, hs]

/-- `stop_request` leads to Stopped from every state, Stopped itself included (R267, R278). -/
theorem stopRequest_eq (s : State) : stopRequest s = { s with execState := .stopped } := by
  cases hs : s.execState with
  | running | halted => simp only [stopRequest, hs]
  | stopped =>
    simp only [stopRequest, hs]
    rw [← hs]

theorem stopRequest_of_stopped {s : State} (h : s.execState = .stopped) : stopRequest s = s := by
  rw [stopRequest_eq, ← h]

@[simp] theorem State.stopRequest_execState (s : State) : (stopRequest s).execState = .stopped := by
  rw [stopRequest_eq]

/-- A `wake` before a `stop_request` is lost in it (R268). -/
theorem stopRequest_wake (s : State) : stopRequest (wake s) = stopRequest s := by
  by_cases h : s.execState = .halted
  · rw [wake_of_halted h, stopRequest_eq, stopRequest_eq]
  · rw [wake_of_not_halted h]

/-- And a `wake` after it is not honoured (R268). -/
theorem wake_stopRequest (s : State) : wake (stopRequest s) = stopRequest s :=
  wake_of_not_halted (by rw [State.stopRequest_execState]; decide)

/-! ## The ExecutorState after a Running step -/

/-- The fetch does not touch ExecutorState. -/
theorem fetchInstr_snd_execState (s : State) : (fetchInstr s).2.execState = s.execState := by
  obtain ⟨pc, h⟩ := fetchInstr_state s
  rw [h]

/-- HALT is one byte. -/
theorem fetchInstr_of_halt_byte {s : State} (h : s.read s.pc = 0x76) : fetchInstr s = (.halt, { s with pc := s.pc + 1 }) :=
  fetchInstr_one s (by rw [h]; rfl)

/-- HALT is fetched exactly where the byte at PC is its opcode: what is fetched begins with that byte. -/
theorem fetchInstr_form_eq_halt_iff (s : State) : (fetchInstr s).1.form = .halt ↔ s.read s.pc = 0x76 := by
  constructor
  · intro h
    obtain ⟨-, rest, henc⟩ := fetchInstr_encode s
    rw [encode, h] at henc
    exact (List.cons.inj henc).1.symm
  · intro h
    rw [fetchInstr_of_halt_byte h]
    rfl

/-- The whole next state of a Running step at a HALT (R252). -/
theorem step_of_halt_byte {s : State} (hr : s.execState = .running) (h : s.read s.pc = 0x76) :
    step s = .next { s with pc := s.pc + 1, execState := .halted } := by
  rw [step_running hr, fetchInstr_of_halt_byte h]
  exact exec_next .halt _ rfl

/-- A step that completes an instruction other than HALT stays Running. -/
theorem step_stays_running {s t : State} (hr : s.execState = .running) (h : s.read s.pc ≠ 0x76) (hst : step s = .next t) :
    t.execState = .running := by
  obtain ⟨-, -, rfl⟩ | ⟨hn, -⟩ := next_of_step hst
  · have hform : (fetchInstr s).1.form ≠ .halt := mt (fetchInstr_form_eq_halt_iff s).1 h
    rw [(run_leaves_selected _ _ hform).execState, fetchInstr_snd_execState, hr]
  · exact absurd hr hn

/-- Only a Running step faults, and it leaves the machine Running (R261, D7). -/
theorem driverStep_fault_running {s : State} {r : Fault} (h : step s = .fault r) : (Driver.step s).2.execState = .running := by
  obtain ⟨hr, -⟩ := fault_of_step h
  obtain ⟨op, a⟩ := r
  rw [driverStep_fault h, State.afterDecodeError_execState, hr]

/-! ## The statements -/

/-- Settles O22: a step does nothing; `wake` and `stop_request` by their whole next states. -/
theorem notRunningStepsDoNothing : Obligations.NotRunningStepsDoNothing := by
  intro s hs
  have hst : step s = .next s := step_not_running hs
  refine ⟨hst, driverStep_next hst, busTrace_not_running hs, fun h => ?halted, fun h => ?stopped, fun _ _ => rfl⟩
  case halted => exact ⟨wake_of_halted h, stopRequest_eq s⟩
  case stopped => exact ⟨wake_of_not_halted (by rw [h]; decide), stopRequest_of_stopped h⟩

/-- Settles O23: HALT, fetched exactly at its opcode byte, is the one instruction that writes ExecutorState; a DecodeError
does not write it; `wake` and `stop_request` by their whole next states. -/
theorem executorTransitions : Obligations.ExecutorTransitions := by
  refine ⟨fun s t hr hst => ?_, fun s => step_of_halt_byte, fun s r => driverStep_fault_running, fun s => ?_, stopRequest_eq,
    fun s => ⟨stopRequest_wake s, wake_stopRequest s⟩⟩
  · split
    · next h =>
      obtain rfl := Host.Outcome.next.inj ((step_of_halt_byte hr h).symm.trans hst)
      rfl
    · next h => exact step_stays_running hr h hst
  · split
    · next h => exact wake_of_halted h
    · next h => exact wake_of_not_halted h

end Sys2Proof.Machine
end

section
/-! PROOFS: the family of 70_reset_and_hazards.md. First the jumps without the stack, and that no other instruction both
leaves SP and moves PC back; then the length of the fetched instruction, which a jump to itself must lead back over; then
the statement itself. -/

namespace Sys2Proof.Machine

/-! ## Jumps without the stack -/

/-- `JumpsTo f s p`: the instruction is a jump without the stack, it jumps, and its target is `p` (R221 to R225). `s` is the
state past the instruction. -/
inductive JumpsTo : Form → State → Word → Prop
  | jp {s aa} : JumpsTo (.jp aa) s aa
  | jp_cc {s cc aa} : s.cond cc = true → JumpsTo (.jp_cc cc aa) s aa
  | jp_HL {s p} : s.get16 .HL = p → JumpsTo .jp_HL s p
  | jr {s e p} : s.pc + sext16 e = p → JumpsTo (.jr e) s p
  | jr_cc {s cc e p} : s.cond cc = true → s.pc + sext16 e = p → JumpsTo (.jr_cc cc e) s p

/-- A jump that jumps writes PC alone. -/
theorem JumpsTo.run_eq {f : Form} {s : State} {p : Word} (h : JumpsTo f s p) : f.run s = { s with pc := p } := by
  cases h with
  | jp => rfl
  | jp_cc hc => rw [Form.run, jumpIf_eq, if_pos hc]
  | jp_HL hp | jr hp => subst hp; rfl
  | jr_cc hc hp => rw [Form.run, jumpRelIf_eq, if_pos hc, hp]

theorem JumpsTo.hasEntry {f : Form} {s : State} {p : Word} (h : JumpsTo f s p) : f.hasEntry = true := by
  cases h <;> rfl

theorem call_sp_ne (aa : Word) (s : State) : (call aa s).sp ≠ s.sp := by
  obtain ⟨-, hsp, -⟩ := call_spec aa s
  rw [hsp]
  bv_omega

theorem ret_sp_ne (s : State) : (ret s).sp ≠ s.sp := by
  rw [ret_eq]
  bv_omega

/-- An instruction that does not write PC leaves it past itself, HALT too (R15). -/
theorem run_pc_of_not_writesPC {f : Form} (s : State) (hcb : ∀ o, f ≠ .cbPrefix o) (h : writesPC f = false) :
    (f.run s).pc = s.pc := by
  by_cases hh : f = .halt
  · subst hh
    rfl
  · exact (run_leaves f s hcb hh).pc h

/-- An instruction jumps without the stack, or moves SP as a call or a return does, or leaves PC past itself (R15, R24). -/
theorem jumpsTo_or_run_sp_ne_or_run_pc_eq (f : Form) (s : State) (hcb : ∀ o, f ≠ .cbPrefix o) :
    (∃ p, JumpsTo f s p) ∨ (f.run s).sp ≠ s.sp ∨ (f.run s).pc = s.pc := by
  by_cases hw : writesPC f = false
  · exact .inr (.inr (run_pc_of_not_writesPC s hcb hw))
  cases f with
  | jp aa => exact .inl ⟨aa, .jp⟩
  | jp_HL => exact .inl ⟨_, .jp_HL rfl⟩
  | jr e => exact .inl ⟨_, .jr rfl⟩
  | call | rst => exact .inr (.inl (call_sp_ne _ s))
  | ret | reti => exact .inr (.inl (ret_sp_ne s))
  | jp_cc cc aa =>
    cases hc : s.cond cc with
    | true => exact .inl ⟨aa, .jp_cc hc⟩
    | false => exact .inr (.inr (by rw [Form.run, jumpIf_eq, if_neg (by simp [hc])]))
  | jr_cc cc e =>
    cases hc : s.cond cc with
    | true => exact .inl ⟨_, .jr_cc hc rfl⟩
    | false => exact .inr (.inr (by rw [Form.run, jumpRelIf_eq, if_neg (by simp [hc])]))
  | call_cc cc aa =>
    cases hc : s.cond cc with
    | true => exact .inr (.inl (by rw [Form.run, callIf_taken hc]; exact call_sp_ne aa s))
    | false => exact .inr (.inr (by rw [Form.run, callIf_not_taken hc]))
  | ret_cc cc =>
    cases hc : s.cond cc with
    | true => exact .inr (.inl (by rw [Form.run, retIf_taken hc]; exact ret_sp_ne s))
    | false => exact .inr (.inr (by rw [Form.run, retIf_not_taken hc]))
  | _ => exact absurd rfl hw

/-! ## The length of the fetched instruction -/

/-- The fetch moves PC past the instruction's own encoding, of one to three bytes (R15, R70). -/
theorem fetchInstr_snd_eq (s : State) :
    (fetchInstr s).2 = { s with pc := s.pc + BitVec.ofNat 16 (encode (fetchInstr s).1).length } ∧
    1 ≤ (encode (fetchInstr s).1).length ∧ (encode (fetchInstr s).1).length ≤ 3 := by
  obtain ⟨rest, hd, hsnd⟩ := fetchInstr_decodes s
  obtain ⟨-, hbytes⟩ := encodeInvertsDecode _ _ _ hd
  obtain ⟨-, operands, henc⟩ := fetchInstr_encode s
  have hpos : 1 ≤ (encode (fetchInstr s).1).length := by simp [henc]
  have hlen : (encode (fetchInstr s).1).length + rest.length = 3 := by
    rw [← List.length_append, ← hbytes]
    rfl
  refine ⟨?_, hpos, by omega⟩
  rw [hsnd, ← hlen, Nat.add_sub_cancel]

theorem fetchInstr_snd_pc_ne (s : State) : (fetchInstr s).2.pc ≠ s.pc := by
  obtain ⟨hsnd, hpos, hle⟩ := fetchInstr_snd_eq s
  rw [hsnd]
  bv_omega

/-- The one relative operand that leads back over the two bytes of a JR (R224, R296). -/
theorem add_two_add_sext16_eq_iff (p : Word) (e : Byte) : p + 2 + sext16 e = p ↔ e = 0xFE := by
  have hback : sext16 e = -2 ↔ e = 0xFE := by
    revert e
    decide
  rw [← hback]
  constructor <;> intro h <;> bv_omega

/-! ## Final states -/

/-- The five cases of R296 of an instruction at PC that jumps to itself. -/
def JumpsToItself (f : Form) (s : State) : Prop :=
  f = .jr 0xFE ∨ (∃ cc, f = .jr_cc cc 0xFE ∧ s.cond cc = true) ∨
  f = .jp s.pc ∨ (∃ cc, f = .jp_cc cc s.pc ∧ s.cond cc = true) ∨
  (f = .jp_HL ∧ s.get16 .HL = s.pc)

theorem State.cond_withPc (s : State) (p : Word) (cc : Cond) : ({ s with pc := p } : State).cond cc = s.cond cc := by
  cases cc <;> rfl

/-- From past its own bytes, an instruction jumps to where they begin exactly in the five cases. -/
theorem jumpsTo_pc_iff (f : Form) (s : State) :
    JumpsTo f { s with pc := s.pc + BitVec.ofNat 16 f.encode.length } s.pc ↔ JumpsToItself f s := by
  constructor
  · intro h
    cases h with
    | jp => exact .inr (.inr (.inl rfl))
    | jp_cc hc => exact .inr (.inr (.inr (.inl ⟨_, rfl, s.cond_withPc _ _ ▸ hc⟩)))
    | jp_HL hp => exact .inr (.inr (.inr (.inr ⟨rfl, hp⟩)))
    | jr hp => exact .inl (by rw [(add_two_add_sext16_eq_iff _ _).1 hp])
    | jr_cc hc hp => exact .inr (.inl ⟨_, by rw [(add_two_add_sext16_eq_iff _ _).1 hp], s.cond_withPc _ _ ▸ hc⟩)
  · rintro (rfl | ⟨cc, rfl, hc⟩ | rfl | ⟨cc, rfl, hc⟩ | ⟨rfl, hp⟩)
    · exact .jr ((add_two_add_sext16_eq_iff _ _).2 rfl)
    · exact .jr_cc (s.cond_withPc _ cc ▸ hc) ((add_two_add_sext16_eq_iff _ _).2 rfl)
    · exact .jp
    · exact .jp_cc (s.cond_withPc _ cc ▸ hc)
    · exact .jp_HL hp

/-- A Running step answers its own state exactly at a jump to PC (D23): anything else moves SP, or leaves PC moved. -/
theorem final_iff_jumpsTo_pc {s : State} (hr : s.execState = .running) :
    s.Final ↔ JumpsTo (fetchInstr s).1.form (fetchInstr s).2 s.pc := by
  obtain ⟨pc, hsnd⟩ := fetchInstr_state s
  constructor
  · intro h
    obtain ⟨-, -, hrun⟩ | ⟨hn, -⟩ := next_of_step h
    · have hsp : ((fetchInstr s).1.form.run (fetchInstr s).2).sp = (fetchInstr s).2.sp := by rw [← hrun, hsnd]
      have hpc : ((fetchInstr s).1.form.run (fetchInstr s).2).pc ≠ (fetchInstr s).2.pc := by
        rw [← hrun]
        exact (fetchInstr_snd_pc_ne s).symm
      obtain ⟨p, hp⟩ | hne | heq := jumpsTo_or_run_sp_ne_or_run_pc_eq _ (fetchInstr s).2 (fetchInstr_not_cb s)
      · have htarget : s.pc = p := congrArg State.pc (hrun.trans hp.run_eq)
        exact htarget ▸ hp
      · exact absurd hsp hne
      · exact absurd heq hpc
    · exact absurd hr hn
  · intro h
    rw [State.Final, step_running hr, exec_next _ _ h.hasEntry, h.run_eq, hsnd]

/-- What is said of the instruction that the bytes at PC decode to is said of the one fetched (R76). -/
theorem exists_decode_bytesAtPC_iff (s : State) (P : Instr → Prop) :
    (∃ (i : Instr) (rest : List Byte), decode s.bytesAtPC = .ok (i, rest) ∧ P i) ↔ P (fetchInstr s).1 := by
  obtain ⟨rest, hd, -⟩ := fetchInstr_decodes s
  simp [hd]

/-- Settles O24: a Running state is final exactly where the instruction fetched jumps to PC itself. -/
theorem finalStatesAreExactly : Obligations.FinalStatesAreExactly := by
  intro s
  by_cases hr : s.execState = .running
  · have hfinal : s.Final ↔ JumpsToItself (fetchInstr s).1.form s := by
      rw [final_iff_jumpsTo_pc hr, (fetchInstr_snd_eq s).1]
      exact jumpsTo_pc_iff _ s
    rw [hfinal, ← exists_decode_bytesAtPC_iff s fun i => JumpsToItself i.form s]
    simp [hr, JumpsToItself]
  · have hfinal : s.Final := step_not_running hr
    cases hs : s.execState with
    | running => exact absurd hs hr
    | halted | stopped => simp [hfinal]

end Sys2Proof.Machine
end
